-- ==== Sys2Proof/Word.lean ====
section
/-! DEFINITION. The words of the KZ6240's interface: bytes, tags, register words and host addresses
(spec/11_record_and_frame_layouts.md). -/

namespace Sys2Proof

/-- A byte of a record, of a chip register or of host memory. -/
abbrev Byte := BitVec 8

/-- A 32-bit word of the register window, and the 32-bit result of a completion record. -/
abbrev Word := BitVec 32

/-- A 64-bit address in host memory. -/
abbrev HostAddr := BitVec 64

/-- The host's identifier of a command (Table 11-3, bytes 2 and 3). -/
abbrev Tag := BitVec 16

end Sys2Proof
end

