-- ==== Sys2Proof/Syntax.lean ====
section
/-! DEFINITION. The commands of the KZ6240: one constructor of `Instr` for each row of
spec/opcode_table.json, with the row's operands. A command record's parameters stand as the bytes the
record holds (Table 11-4), so that a value outside its range can be written and is refused by the
part, not by the syntax. -/

namespace Sys2Proof

/-- What the end of a read of host memory brings: the bytes, or a host read error. -/
inductive HostRead where
  | data (bytes : List Byte)
  | error
  deriving DecidableEq, Repr

/-- How a write to host memory ends. -/
inductive HostWrite where
  | ok
  | error
  deriving DecidableEq, Repr

/-- What the port samples after the request (R70): the bit time, counted from 1 at the end of the
request, in which the line first reads low (`none`: it never does), the two answer-code bits in their
order, and the read data and read parity that stand after them for a read answered ACK. -/
structure FrameAnswer where
  startBit : Option Nat
  code1 : Bool
  code2 : Bool
  data : Byte
  parity : Bool
  deriving DecidableEq, Repr

/-- The ten bytes of an option block as read (Section 11.4). 0xFF in a byte and 0xFFFF in the poll
period stand for default (LANE_ATTACH) or no change (LANE_SET), R173. -/
structure OptionBlock where
  pollPeriod : BitVec 16
  retryLimit : Byte
  verify : Byte
  layerOrder : Byte
  hysteresis : Byte
  indexMode : Byte
  alarmLatch : Byte
  warnLatch : Byte
  indexEvents : Byte
  deriving DecidableEq, Repr

/-- The bytes of a watch record that are read (Table 11-9). -/
structure WatchRecord where
  index : Byte
  state : Byte
  address : Byte
  options : Byte
  presence : Byte
  alarmLow : Byte
  alarmHigh : Byte
  warnLow : Byte
  warnHigh : Byte
  deriving DecidableEq, Repr

/-- The eight registers of the window (Table 10-1). -/
inductive WindowReg where
  | ident | control | status | intEnable | setupLow | setupHigh | post | ringReturn
  deriving DecidableEq, Repr

/-- The ring a RETURN names (Table 11-1, RETURN bit 0). -/
inductive ReturnRing where
  | cq | eq
  deriving DecidableEq, Repr

/-- The commands. The first sixteen are command records of a submission ring with a tag; the others are
register accesses, resets, steps of the Host Port and steps at the lanes and ports. -/
inductive Instr where
  | nop (ring : Fin 4) (tag : Tag)
  | laneAttach (ring : Fin 4) (tag : Tag) (lane port select : Byte) (opts : OptionBlock)
  | laneDetach (ring : Fin 4) (tag : Tag) (lane : Byte)
  | laneSet (ring : Fin 4) (tag : Tag) (lane : Byte) (opts : OptionBlock)
  | laneQuiesce (ring : Fin 4) (tag : Tag) (lane : Byte)
  | laneResume (ring : Fin 4) (tag : Tag) (lane : Byte)
  | laneSync (ring : Fin 4) (tag : Tag) (lane : Byte) (limit : BitVec 16)
  | regSet (ring : Fin 4) (tag : Tag) (lane addr layer value : Byte) (present : Bool)
  | readDirect (ring : Fin 4) (tag : Tag) (lane addr : Byte)
  | writeDirect (ring : Fin 4) (tag : Tag) (lane addr value : Byte)
  | watchSet (ring : Fin 4) (tag : Tag) (lane : Byte) (record : WatchRecord)
  | flagsClear (ring : Fin 4) (tag : Tag) (lane watchMask flagMask : Byte)
  | calIndex (ring : Fin 4) (tag : Tag) (lane index : Byte)
  | calClear (ring : Fin 4) (tag : Tag) (lane : Byte)
  | chainLoad (ring : Fin 4) (tag : Tag) (lane mode : Byte) (first : HostAddr)
  | laneReport (ring : Fin 4) (tag : Tag) (lane : Byte) (buffer : HostAddr)
  | start
  | stop
  | reset
  | hostBusReset
  | powerOn
  | resetEnd
  | post (ring : Fin 4) (tail : BitVec 16)
  | ringReturn (ring : ReturnRing) (head : BitVec 16)
  | statusWrite (value : Word)
  | intEnableWrite (value : Word)
  | registerWrite (reg : WindowReg) (value : Word)
  | setupReadStart
  | setupReadEnd (result : HostRead)
  | fetchStart
  | fetchEnd (result : HostRead)
  | completionWriteStart
  | completionWriteEnd (result : HostWrite)
  | eventWriteStart
  | eventWriteEnd (result : HostWrite)
  | portGrant (port : Fin 4)
  | frameEnd (port : Fin 4) (answer : FrameAnswer)
  | syncTimeout (lane : Fin 16) (ring : Fin 4) (tag : Tag)
  | pollTick (lane : Fin 16)
  | blockReadStart
  | blockReadEnd (result : HostRead)
  | chainCommit
  | reportWriteStart
  | reportWriteEnd (result : HostWrite)
  deriving DecidableEq, Repr

end Sys2Proof
end

