-- ==== Sys2Proof/WellFormed.lean ====
section
/-! DEFINITION. When a command is one that can happen: the end of a read brings as many bytes as the
transfer reads (R124, R140, R167), and a start bit is seen in a bit time counted from 1 (R70). Every
other operand ranges over a type of the right size. -/

namespace Sys2Proof

/-- Bytes of the setup block (Table 11-2). -/
def setupBytes : Nat := 128

/-- Bytes of a submission record (Table 11-3). -/
def recordBytes : Nat := 32

/-- Bytes of a chain block (Table 11-9). -/
def blockBytes : Nat := 256

/-- A read that ended without error brought `n` bytes. -/
def HostRead.wellFormed (n : Nat) : HostRead → Bool
  | .data bytes => bytes.length == n
  | .error => true

/-- A start bit is seen in the first bit time or later (R70). -/
def FrameAnswer.wellFormed (a : FrameAnswer) : Bool :=
  match a.startBit with
  | some t => decide (1 ≤ t)
  | none => true

/-- The well-formed commands. -/
def Instr.wellFormed : Instr → Bool
  | .setupReadEnd r => r.wellFormed setupBytes
  | .fetchEnd r => r.wellFormed recordBytes
  | .blockReadEnd r => r.wellFormed blockBytes
  | .frameEnd _ a => a.wellFormed
  | .nop _ _ | .laneAttach _ _ _ _ _ _ | .laneDetach _ _ _ | .laneSet _ _ _ _ | .laneQuiesce _ _ _
  | .laneResume _ _ _ | .laneSync _ _ _ _ | .regSet _ _ _ _ _ _ _ | .readDirect _ _ _ _
  | .writeDirect _ _ _ _ _ | .watchSet _ _ _ _ | .flagsClear _ _ _ _ _ | .calIndex _ _ _ _
  | .calClear _ _ _ | .chainLoad _ _ _ _ _ | .laneReport _ _ _ _ | .start | .stop | .reset
  | .hostBusReset | .powerOn | .resetEnd | .post _ _ | .ringReturn _ _ | .statusWrite _
  | .intEnableWrite _ | .registerWrite _ _ | .setupReadStart | .fetchStart | .completionWriteStart
  | .completionWriteEnd _ | .eventWriteStart | .eventWriteEnd _ | .portGrant _ | .syncTimeout _ _ _
  | .pollTick _ | .blockReadStart | .chainCommit | .reportWriteStart | .reportWriteEnd _ => true

end Sys2Proof
end

