-- ==== Sys2Proof/Decode.lean ====
section
/-! DEFINITION. No row of spec/opcode_table.json gives bits: a command is a happening at the part, not
a word it decodes. So no word spells a command (notes/assumptions/24.md). The record bytes that a
FETCH_END brings are read in Machine/Operands.lean. -/

namespace Sys2Proof

/-- The command that the bits of `w` spell by the table: none, because the table gives no row bits. -/
def decodeTableWord (_nbits _w : Nat) : Option Instr := none

end Sys2Proof
end

