-- ==== Sys2Proof/Config.lean ====
section
/-! DEFINITION. What the part fixes: capacities and constants of spec/00_scope.md, Table 0-1, and of
Table 11-1. The spec leaves no value of the part open, so there is no free value here. -/

namespace Sys2Proof.Config

/-- IDENT bits 0 to 15 (R164, Table 11-1). -/
def familyCode : BitVec 16 := 0x6240#16

/-- IDENT bits 16 to 23 (Table 11-1): 1 for the part the manual describes. -/
def siliconRevision : BitVec 8 := 1#8

/-- Entries of the Outstanding Command Table (R144). -/
def tableSize : Nat := 32

/-- Waiting loads of the loader queue (R122). -/
def loaderQueueSize : Nat := 8

/-- Columns of a calibration table (R115, R127). -/
def tableColumns : Nat := 8

/-- Blocks of a configuration chain (R128). -/
def chainBlocks : Nat := 16

/-- The highest chip address that has an image entry (R1). -/
def lastAddress : Nat := 63

/-- Where the restart count stays (R54). -/
def restartMax : Nat := 255

/-- Where the overrun count and the lost-event count stay (R97, R160). -/
def countMax : Nat := 65535

/-- The value an ACK writes to chip address 0 (R73). -/
def ackValue : Byte := 0x80#8

end Sys2Proof.Config
end

