-- ==== Sys2Proof/Machine/State.lean ====
section
/-! DEFINITION. The state of the KZ6240 as plain data: everything the spec gives the part
(INVENTORY.md, heading State), the queue of waiting commands, the reasons a step can stop, and the
state after reset. -/

namespace Sys2Proof.Machine

/-! ### Lane images (spec/01) -/

/-- Entry states (Table 1-3). -/
inductive EntryState where
  | unmanaged | clean | dirty | pending | refused
  deriving DecidableEq, Repr

/-- Why a chip refused an intended value (Table 1-1). -/
inductive RefusalReason where
  | nak | mismatch
  deriving DecidableEq, Repr

/-- The order in which layers are consulted (Table 1-2). -/
inductive LayerOrder where
  | holdFirst | calFirst
  deriving DecidableEq, Repr

/-- One image entry (Table 1-1). -/
structure Entry where
  base : Option Byte
  hold : Option Byte
  cal : Option Byte
  intended : Option Byte
  applied : Option Byte
  state : EntryState
  inFlight : Option Byte
  attempts : Nat
  refusal : Option RefusalReason
  deriving DecidableEq, Repr

/-- An entry after power-on, RESET and detach (R24). -/
def Entry.reset : Entry :=
  { base := none, hold := none, cal := none, intended := none, applied := none,
    state := .unmanaged, inFlight := none, attempts := 0, refusal := none }

/-- One lane image (Figure 1-1): the entry of chip address `a` stands at index `a - 1`; the queue's
first element is its head. The layer order is the lane's option. -/
structure Image where
  entries : Vector Entry 63
  queue : List Nat
  deriving DecidableEq, Repr

/-- A lane image after power-on, RESET and detach (R24). -/
def Image.reset : Image := { entries := Vector.replicate 63 Entry.reset, queue := [] }

/-! ### Watches and poll rounds (spec/05) -/

/-- Watch entry states (Table 5-1). -/
inductive WatchState where
  | empty | active | suspended
  deriving DecidableEq, Repr

/-- The four flags of a watch (Figure 5-1). -/
structure Flags where
  al : Bool
  ah : Bool
  wl : Bool
  wh : Bool
  deriving DecidableEq, Repr

/-- All four flags clear. -/
def Flags.clear : Flags := { al := false, ah := false, wl := false, wh := false }

/-- A flag's name, in the order of its code (Section 11.6). -/
inductive WatchFlag where
  | al | ah | wl | wh
  deriving DecidableEq, Repr

/-- One watch entry (Figure 5-1). Limits and the last value are bytes; `signed` says how they read. -/
structure Watch where
  state : WatchState
  address : Nat
  signed : Bool
  tempSource : Bool
  eventEnable : Bool
  alarmLow : Option Byte
  alarmHigh : Option Byte
  warnLow : Option Byte
  warnHigh : Option Byte
  last : Option Byte
  flags : Flags
  deriving DecidableEq, Repr

/-- The contents of an EMPTY watch (R90). -/
def Watch.reset : Watch :=
  { state := .empty, address := 0, signed := false, tempSource := false, eventEnable := false,
    alarmLow := none, alarmHigh := none, warnLow := none, warnHigh := none, last := none,
    flags := Flags.clear }

/-- A round in progress (R94): at its CHECK, or with the CHECK taken and the index of the last watch
whose POLL has ended. -/
inductive Round where
  | atCheck
  | polling (position : Option (Fin 8))
  deriving DecidableEq, Repr

/-! ### Calibration (spec/06) -/

/-- One column of a calibration table (Section 6.1). -/
structure Column where
  target : Nat
  rows : Vector Byte 32
  deriving DecidableEq, Repr

/-- Index modes (R113). -/
inductive IndexMode where
  | auto | manual
  deriving DecidableEq, Repr

/-- What moved an index (R114). -/
inductive IndexCause where
  | reading | command
  deriving DecidableEq, Repr

/-! ### Lanes (spec/03) -/

/-- Lane states (Table 3-1). -/
inductive LaneState where
  | detached | probing | active | quiescing | quiesced | faulted | detaching
  deriving DecidableEq, Repr

/-- Latch options (R99). -/
inductive Latch where
  | live | latched
  deriving DecidableEq, Repr

/-- A lane's options (Table 3-3). -/
structure Options where
  pollPeriod : Nat
  retryLimit : Nat
  verify : Bool
  layerOrder : LayerOrder
  hysteresis : Nat
  indexMode : IndexMode
  alarmLatch : Latch
  warnLatch : Latch
  indexEvents : Bool
  deriving DecidableEq, Repr

/-- The defaults of Table 3-3. -/
def Options.default : Options :=
  { pollPeriod := 100, retryLimit := 2, verify := false, layerOrder := .holdFirst, hysteresis := 2,
    indexMode := .auto, alarmLatch := .latched, warnLatch := .live, indexEvents := false }

/-- Where a lane's chip is reached. -/
structure Binding where
  port : Fin 4
  select : Fin 4
  deriving DecidableEq, Repr

/-- Why a lane is probing. -/
inductive ProbePurpose where
  | attach | resume
  deriving DecidableEq, Repr

/-- The name of an outstanding command: unique in the table (R144). -/
structure CmdId where
  ring : Fin 4
  tag : Tag
  deriving DecidableEq, Repr

/-- A transaction as it is fixed at its grant (Table 4-5, R74). A direct transaction is that of the
head of the lane's direct list. -/
inductive Tx where
  | check
  | ack
  | wb (addr : Nat) (value : Byte)
  | verify (addr : Nat)
  | poll (watch : Fin 8) (addr : Nat)
  | directRead (addr : Nat)
  | directWrite (addr : Nat) (value : Byte)
  deriving DecidableEq, Repr

/-- The kind of a transaction (Table 4-5). -/
inductive TxKind where
  | check | ack | wb | verify | poll | directRead | directWrite
  deriving DecidableEq, Repr

/-- The outcomes other than DONE (R71). -/
inductive Failure where
  | nak | noResponse | parity
  deriving DecidableEq, Repr

/-- The outcome of a frame (R71); DONE delivers the value read (a write's is not used). -/
inductive FrameOutcome where
  | done (value : Byte)
  | failed (f : Failure)
  deriving DecidableEq, Repr

/-- A SYNC waiter and its remaining time limit in milliseconds, or none (R66). -/
structure Waiter where
  id : CmdId
  remaining : Option Nat
  deriving DecidableEq, Repr

/-- A direct request (R83): a WRITE_DIRECT carries a value. Whether its frame is in flight is the
port's frame in flight, which then is a direct transaction of the lane and belongs to the head. -/
structure DirectReq where
  id : CmdId
  addr : Nat
  value : Option Byte
  retries : Nat
  deriving DecidableEq, Repr

/-- One lane: Figure 3-1, the lane's image, watches and calibration state, its direct list and what
its Lane Controller keeps for its next transaction (R75, R76). -/
structure Lane where
  state : LaneState
  binding : Option Binding
  options : Options
  purpose : Option ProbePurpose
  transition : Option CmdId
  checkDue : Bool
  ackDue : Bool
  verifyDue : Bool
  retryDue : Option Tx
  retryCount : Nat
  restartCount : Nat
  overrunCount : Nat
  waiters : List Waiter
  directs : List DirectReq
  image : Image
  watches : Vector Watch 8
  pollTimer : Nat
  round : Option Round
  stalePoll : Bool
  index : Option (Fin 32)
  table : List Column
  deriving DecidableEq, Repr

/-- A lane after power-on, after RESET and in DETACHED (R44, R64, R108, R109). `verifyDue`, `retryDue`,
`retryCount` and `stalePoll` are DESIGN CHOICE (notes/assumptions/15.md). -/
def Lane.reset : Lane :=
  { state := .detached, binding := none, options := Options.default, purpose := none,
    transition := none, checkDue := false, ackDue := false, verifyDue := false, retryDue := none,
    retryCount := 0, restartCount := 0, overrunCount := 0, waiters := [], directs := [],
    image := Image.reset, watches := Vector.replicate 8 Watch.reset, pollTimer := 0, round := none,
    stalePoll := false, index := none, table := [] }

/-! ### Link ports (spec/04) -/

/-- A frame in flight: the granted lane and its transaction (Figure 4-2). -/
structure Frame where
  lane : Fin 16
  tx : Tx
  deriving DecidableEq, Repr

/-- One link port (Figure 4-2). It is BUSY exactly while `frame` is present (R78). -/
structure Port where
  enabled : Bool
  bitRate : Nat
  window : Nat
  pointer : Fin 4
  frame : Option Frame
  deriving DecidableEq, Repr

/-- A port after power-on and RESET (Figure 4-2). -/
def Port.reset : Port :=
  { enabled := false, bitRate := 1, window := 64, pointer := 3, frame := none }

/-! ### Events (spec/09) -/

/-- Causes of RING_ERROR (R138). -/
inductive RingErrorCause where
  | postRange | readError
  deriving DecidableEq, Repr

/-- A raised event with its content (Table 9-1). -/
inductive Event where
  | chipRestart (lane : Fin 16) (count : Nat) (found : LaneState) (queueLength : Nat)
  | linkFault (lane : Fin 16) (left : LaneState) (kind : TxKind) (addr : Nat) (outcome : Failure)
  | writeRefused (lane : Fin 16) (addr : Nat) (value : Byte) (reason : RefusalReason)
      (readBack : Option Byte)
  | watchRaise (lane : Fin 16) (watch : Fin 8) (addr : Nat) (flag : WatchFlag) (value : Byte)
  | watchFall (lane : Fin 16) (watch : Fin 8) (addr : Nat) (flag : WatchFlag) (value : Byte)
  | watchRefused (lane : Fin 16) (watch : Fin 8) (addr : Nat)
  | indexChange (lane : Fin 16) (old new : Option (Fin 32)) (cause : IndexCause)
      (temperature : Option Byte)
  | ringError (ring : Fin 4) (cause : RingErrorCause)
  deriving DecidableEq, Repr

/-! ### Rings (spec/08, spec/09) -/

/-- Submission ring states (R137). -/
inductive RingState where
  | off | active | error
  deriving DecidableEq, Repr

/-- A submission ring's rights (R142). -/
inductive Rights where
  | full | observe
  deriving DecidableEq, Repr

/-- One submission ring (Figure 8-1). -/
structure SubRing where
  state : RingState
  base : HostAddr
  size : Nat
  rights : Rights
  head : Nat
  tail : Nat
  deriving DecidableEq, Repr

/-- A submission ring after power-on and RESET (R137). -/
def SubRing.reset : SubRing :=
  { state := .off, base := 0, size := 16, rights := .full, head := 0, tail := 0 }

/-- The positions of the completion ring (Figure 8-3) or of the event ring (Figure 9-1). -/
structure OutRing where
  base : HostAddr
  size : Nat
  writeSlot : Nat
  head : Nat
  occupied : Nat
  phase : Bool
  deriving DecidableEq, Repr

/-- The completion ring and the event ring after power-on and RESET (R147, R157). -/
def OutRing.reset : OutRing :=
  { base := 0, size := 16, writeSlot := 0, head := 0, occupied := 0, phase := true }

/-- The event ring (Figure 9-1). -/
structure EventRing where
  ring : OutRing
  pending : List Event
  lost : Nat
  mask : BitVec 16
  deriving DecidableEq, Repr

/-- The event ring after power-on and RESET (R157). -/
def EventRing.reset : EventRing := { ring := OutRing.reset, pending := [], lost := 0, mask := 0 }

/-! ### Commands (spec/08) -/

/-- A command's kind with its parameters as read from its record (Table 11-4). -/
inductive Cmd where
  | nop
  | laneAttach (port select : Byte) (opts : OptionBlock)
  | laneDetach
  | laneSet (opts : OptionBlock)
  | laneQuiesce
  | laneResume
  | laneSync (limit : BitVec 16)
  | regSet (addr layer value : Byte) (present : Bool)
  | readDirect (addr : Byte)
  | writeDirect (addr value : Byte)
  | watchSet (record : WatchRecord)
  | flagsClear (watchMask flagMask : Byte)
  | calIndex (index : Byte)
  | calClear
  | chainLoad (mode : Byte) (first : HostAddr)
  | laneReport (buffer : HostAddr)
  deriving DecidableEq, Repr

/-- Status codes (Table 8-3). -/
inductive Status where
  | ok | unknownKind | rights | dupTag | range | state | conflict | busy | nak | linkFault
  | laneFault | chainError | hostMemory | aborted | timeout
  deriving DecidableEq, Repr

/-- The error of a CHAIN_ERROR (Table 7-2). -/
inductive ChainErr where
  | checksum | badBlock | badEntry | tooLong | tableFull
  deriving DecidableEq, Repr

/-- The detail of a completion (R152). -/
inductive Detail where
  | outcome (f : Failure)
  | chain (e : ChainErr)
  deriving DecidableEq, Repr

/-- The stage of a table entry, with what a FINISHED entry carries (Figure 8-2). -/
inductive Stage where
  | waiting
  | active
  | finished (status : Status) (detail : Option Detail) (result : Option Word)
  deriving DecidableEq, Repr

/-- One entry of the Outstanding Command Table (Figure 8-2). The table's order is the fetch order.
`stopped`: STOP has activated and the entry waits for the end of its own frame or transfer (R156). -/
structure OctEntry where
  id : CmdId
  lane : Byte
  cmd : Cmd
  stage : Stage
  stopped : Bool
  deriving DecidableEq, Repr

/-- An element of the finish list (R148): a FINISHED entry of the table, or a refusal at checks 1 to 3
with the lane byte as read (absent for an unknown kind and for NOP, Table 11-5). -/
inductive FinishItem where
  | entry (id : CmdId)
  | refusal (id : CmdId) (lane : Option Byte) (status : Status)
  deriving DecidableEq, Repr

/-! ### Chain Loader (spec/07) -/

/-- The mode of a CHAIN_LOAD. -/
inductive LoadMode where
  | replace | merge
  deriving DecidableEq, Repr

/-- An accepted CHAIN_LOAD in the loader queue. -/
structure Load where
  id : CmdId
  lane : Fin 16
  mode : LoadMode
  first : HostAddr
  deriving DecidableEq, Repr

/-- The stage of the active load (Figure 7-1); the next block address is present in stage READ. -/
inductive LoadStage where
  | read (next : HostAddr)
  | commitDue
  deriving DecidableEq, Repr

/-- The active load (Figure 7-1) and the number of blocks that have passed. -/
structure ActiveLoad where
  id : CmdId
  lane : Fin 16
  mode : LoadMode
  stage : LoadStage
  position : Nat
  blocksRead : Nat
  deriving DecidableEq, Repr

/-- A staged BASE action (Section 7.1). -/
inductive BaseAction where
  | set (value : Byte)
  | clear
  deriving DecidableEq, Repr

/-- A staged column and the position of the block that held it. -/
structure StagedColumn where
  column : Column
  block : Nat
  deriving DecidableEq, Repr

/-- A staged watch and the position of the block that held its record. -/
structure StagedWatch where
  watch : Watch
  block : Nat
  deriving DecidableEq, Repr

/-- The staging area (Section 7.1); the action of chip address `a` stands at index `a - 1`. -/
structure Staging where
  base : Vector (Option BaseAction) 63
  columns : List StagedColumn
  watches : Vector (Option StagedWatch) 8
  deriving DecidableEq, Repr

/-- The empty staging area (R122). -/
def Staging.reset : Staging :=
  { base := Vector.replicate 63 none, columns := [], watches := Vector.replicate 8 none }

/-- The Chain Loader (Figure 7-1). `discarded`: a host read of an aborted load has still to end. -/
structure Loader where
  queue : List Load
  active : Option ActiveLoad
  discarded : Bool
  staging : Staging
  deriving DecidableEq, Repr

/-- The Chain Loader after power-on and RESET (R122). -/
def Loader.reset : Loader :=
  { queue := [], active := none, discarded := false, staging := Staging.reset }

/-! ### Host Port (spec/00, Figure 0-1) -/

/-- A transfer asked of the Host Port and not yet ended. A setup read, a block read and a report write
are in flight once the Host Port has started them; a fetch, a completion write and an event write are in
flight from their asking (R124, R140, R149, R155, R159, R167). A write carries the bytes it writes. An
interrupt message that is due while others are ahead of it waits in its turn among them (R163). -/
inductive Transfer where
  | setupRead (addr : HostAddr) (started : Bool)
  | fetch (ring : Fin 4) (addr : HostAddr)
  | completionWrite (addr : HostAddr) (record : List Byte)
  | eventWrite (addr : HostAddr) (record : List Byte) (carried : Nat)
  | blockRead (addr : HostAddr) (started : Bool)
  | reportWrite (id : CmdId) (addr : HostAddr) (report : List Byte) (started : Bool)
  | message
  deriving DecidableEq, Repr

/-! ### The part -/

/-- Device states (Figure 10-1). -/
inductive DeviceState where
  | halted | starting | running | stopping | resetting
  deriving DecidableEq, Repr

/-- Error codes of STATUS (R165). -/
inductive ErrorCode where
  | none | setupRead | setupInvalid | hostWrite
  deriving DecidableEq, Repr

/-- Four bits, one for each interrupt cause (Table 9-2): INT_STATE and INT_ENABLE. -/
structure Causes where
  completion : Bool
  event : Bool
  error : Bool
  state : Bool
  deriving DecidableEq, Repr

/-- No cause. -/
def Causes.clear : Causes := { completion := false, event := false, error := false, state := false }

/-- The state of the part, and the queue of commands that wait. `messages` counts the interrupt messages
that the Host Port has sent since reset; one that waits its turn stands in `transfers` (R163,
notes/assumptions/6.md). -/
structure State where
  device : DeviceState
  errorCode : ErrorCode
  badPost : Bool
  badReturn : Bool
  intState : Causes
  intEnable : Causes
  setupBase : HostAddr
  messages : Nat
  rings : Vector SubRing 4
  intakePointer : Fin 4
  cq : OutRing
  eq : EventRing
  table : List OctEntry
  finishList : List FinishItem
  loader : Loader
  lanes : Vector Lane 16
  ports : Vector Port 4
  transfers : List Transfer
  pending : List Instr
  deriving DecidableEq, Repr

/-- The part after power-on (R172): every block in the state its chapter gives. -/
def State.reset : State :=
  { device := .halted, errorCode := .none, badPost := false, badReturn := false,
    intState := Causes.clear, intEnable := Causes.clear, setupBase := 0, messages := 0,
    rings := Vector.replicate 4 SubRing.reset, intakePointer := 3, cq := OutRing.reset,
    eq := EventRing.reset, table := [], finishList := [], loader := Loader.reset,
    lanes := Vector.replicate 16 Lane.reset, ports := Vector.replicate 4 Port.reset,
    transfers := [], pending := [] }

/-- The reasons the machine could stop with a fault. The spec gives the part none: a failed command,
lane, ring or record write is a next state. No meaning raises the one constructor. -/
inductive Fault where
  /-- Raised by nothing; it stands so that the type is not empty. Safe. -/
  | unreachable
  deriving DecidableEq, Repr

/-- The reasons a command could have no meaning. -/
inductive Refusal where
  /-- Raised only by an arm of `exec` whose command has no meaning yet; there is none. Safe. -/
  | notModelled (mnemonic : String)
  deriving DecidableEq, Repr

/-- What a command answers. -/
abbrev Answer := Host.Outcome State Fault Refusal

end Sys2Proof.Machine
end

