-- ==== Sys2Proof/Machine/Operands.lean ====
section
/-! DEFINITION. Operand forms: how the part reads the records, blocks and option fields the host writes
(spec/11_record_and_frame_layouts.md), and the range checks on them. A byte beyond the end of a
list reads as 0; a well-formed command brings every byte. -/

namespace Sys2Proof.Machine

/-! ### Bytes (R173: little-endian) -/

/-- Byte `n` of a record. -/
def byteAt (bs : List Byte) (n : Nat) : Byte := bs.getD n 0

/-- The 16-bit field at byte `n`. -/
def le16 (bs : List Byte) (n : Nat) : BitVec 16 := byteAt bs (n + 1) ++ byteAt bs n

/-- The 64-bit field at byte `n`. -/
def le64 (bs : List Byte) (n : Nat) : HostAddr :=
  le16 bs (n + 6) ++ le16 bs (n + 4) ++ le16 bs (n + 2) ++ le16 bs n

/-- The address is a multiple of 64. -/
def aligned64 (a : HostAddr) : Bool := decide (a.toNat % 64 = 0)

/-! ### Lane options (Table 3-3, R173) -/

/-- One option byte: 0xFF keeps, any other value is decoded or out of range. -/
def optionByte {α : Type} (raw : Byte) (keep : α) (decode : Byte → Option α) : Option α :=
  if raw = 0xFF#8 then some keep else decode raw

/-- A number up to `top`. -/
def upTo (top : Nat) (b : Byte) : Option Nat := if b.toNat ≤ top then some b.toNat else none

/-- off 0, on 1. -/
def offOn (b : Byte) : Option Bool :=
  if b = 0#8 then some false else if b = 1#8 then some true else none

/-- HOLD_FIRST 0, CAL_FIRST 1. -/
def layerOrderCode (b : Byte) : Option LayerOrder :=
  if b = 0#8 then some .holdFirst else if b = 1#8 then some .calFirst else none

/-- AUTO 0, MANUAL 1. -/
def indexModeCode (b : Byte) : Option IndexMode :=
  if b = 0#8 then some .auto else if b = 1#8 then some .manual else none

/-- LIVE 0, LATCHED 1. -/
def latchCode (b : Byte) : Option Latch :=
  if b = 0#8 then some .live else if b = 1#8 then some .latched else none

/-- The poll period field: 0xFFFF keeps, 0 to 1000 is taken (Table 3-3). -/
def pollPeriodField (raw : BitVec 16) (keep : Nat) : Option Nat :=
  if raw = 0xFFFF#16 then some keep else if raw.toNat ≤ 1000 then some raw.toNat else none

/-- The options an option block gives over `keep` (the defaults for LANE_ATTACH, the options as they
stand for LANE_SET), or none when a field is out of its range (R47, R65, R173). -/
def optionsOver (keep : Options) (b : OptionBlock) : Option Options :=
  match pollPeriodField b.pollPeriod keep.pollPeriod,
      optionByte b.retryLimit keep.retryLimit (upTo 3),
      optionByte b.verify keep.verify offOn,
      optionByte b.layerOrder keep.layerOrder layerOrderCode,
      optionByte b.hysteresis keep.hysteresis (upTo 4),
      optionByte b.indexMode keep.indexMode indexModeCode,
      optionByte b.alarmLatch keep.alarmLatch latchCode,
      optionByte b.warnLatch keep.warnLatch latchCode,
      optionByte b.indexEvents keep.indexEvents offOn with
  | some p, some r, some v, some l, some h, some m, some al, some wl, some ie =>
    some { pollPeriod := p, retryLimit := r, verify := v, layerOrder := l, hysteresis := h,
           indexMode := m, alarmLatch := al, warnLatch := wl, indexEvents := ie }
  | _, _, _, _, _, _, _, _, _ => none

/-! ### Watch records (Table 11-9) -/

/-- A limit, present when its presence bit is set (R173). -/
def presentLimit (presence : Byte) (bit : Nat) (v : Byte) : Option Byte :=
  if presence.getLsbD bit then some v else none

/-- A pair of limits is in order (R90): low not above high when both are present. -/
def pairInOrder (signed : Bool) (low high : Option Byte) : Bool :=
  match low, high with
  | some l, some h =>
    if signed then decide (l.toInt ≤ h.toInt) else decide (l.toNat ≤ h.toNat)
  | _, _ => true

/-- The watch that a record of state ACTIVE sets (R103): flags clear and last value absent. Option bits
0, 1 and 2 are signed, temperature source and event enable (Table 11-9). -/
def recordWatch (r : WatchRecord) : Watch :=
  { state := .active, address := r.address.toNat, signed := r.options.getLsbD 0,
    tempSource := r.options.getLsbD 1, eventEnable := r.options.getLsbD 2,
    alarmLow := presentLimit r.presence 0 r.alarmLow,
    alarmHigh := presentLimit r.presence 1 r.alarmHigh,
    warnLow := presentLimit r.presence 2 r.warnLow,
    warnHigh := presentLimit r.presence 3 r.warnHigh,
    last := none, flags := Flags.clear }

/-- The checks on the fields of a record of state ACTIVE (R102, R126). A limit is a byte, so it lies in
the range its signed field gives (notes/assumptions/26.md). -/
def recordOk (r : WatchRecord) : Bool :=
  let w := recordWatch r
  decide (r.address.toNat ≤ 63) && pairInOrder w.signed w.alarmLow w.alarmHigh &&
    pairInOrder w.signed w.warnLow w.warnHigh && (!w.tempSource || w.signed)

/-- The watch a record sets and its index, or none when the record fails its checks (R102, R103, R126):
a record of state EMPTY is checked for its index and state alone. -/
def readWatch (r : WatchRecord) : Option (Fin 8 × Watch) :=
  if h : r.index.toNat < 8 then
    if r.state = 0#8 then some (⟨r.index.toNat, h⟩, Watch.reset)
    else if r.state = 1#8 ∧ recordOk r = true then some (⟨r.index.toNat, h⟩, recordWatch r)
    else none
  else none

/-- The watch record at byte `n`. -/
def watchRecordAt (bs : List Byte) (n : Nat) : WatchRecord :=
  { index := byteAt bs n, state := byteAt bs (n + 1), address := byteAt bs (n + 2),
    options := byteAt bs (n + 3), presence := byteAt bs (n + 4), alarmLow := byteAt bs (n + 5),
    alarmHigh := byteAt bs (n + 6), warnLow := byteAt bs (n + 7), warnHigh := byteAt bs (n + 8) }

/-! ### Submission records (Tables 11-3, 11-4) -/

/-- A record as it is taken from a ring: its tag, its lane byte, and its kind with its parameters. -/
structure Request where
  id : CmdId
  lane : Byte
  cmd : Cmd
  deriving DecidableEq, Repr

/-- The option block at byte 6 (Table 11-4). -/
def optionBlockAt (bs : List Byte) (n : Nat) : OptionBlock :=
  { pollPeriod := le16 bs n, retryLimit := byteAt bs (n + 2), verify := byteAt bs (n + 3),
    layerOrder := byteAt bs (n + 4), hysteresis := byteAt bs (n + 5),
    indexMode := byteAt bs (n + 6), alarmLatch := byteAt bs (n + 7),
    warnLatch := byteAt bs (n + 8), indexEvents := byteAt bs (n + 9) }

/-- The kind and parameters of a record, or none when the kind code names no kind (Section 11.4). -/
def readCmd (bs : List Byte) : Option Cmd :=
  match (byteAt bs 0).toNat with
  | 0x00 => some .nop
  | 0x01 => some (.laneAttach (byteAt bs 4) (byteAt bs 5) (optionBlockAt bs 6))
  | 0x02 => some .laneDetach
  | 0x03 => some (.laneSet (optionBlockAt bs 6))
  | 0x04 => some .laneQuiesce
  | 0x05 => some .laneResume
  | 0x06 => some (.laneSync (le16 bs 4))
  | 0x10 => some (.regSet (byteAt bs 4) (byteAt bs 5) (byteAt bs 6) ((byteAt bs 7).getLsbD 0))
  | 0x11 => some (.readDirect (byteAt bs 4))
  | 0x12 => some (.writeDirect (byteAt bs 4) (byteAt bs 5))
  | 0x20 => some (.watchSet (watchRecordAt bs 4))
  | 0x21 => some (.flagsClear (byteAt bs 4) (byteAt bs 5))
  | 0x30 => some (.calIndex (byteAt bs 4))
  | 0x31 => some .calClear
  | 0x40 => some (.chainLoad (byteAt bs 4) (le64 bs 8))
  | 0x41 => some (.laneReport (le64 bs 8))
  | _ => none

/-- The tag of a record (Table 11-3). -/
def readTag (bs : List Byte) : Tag := le16 bs 2

/-- The lane byte of a record (Table 11-3). -/
def readLane (bs : List Byte) : Byte := byteAt bs 1

/-! ### Setup block (Table 11-2) -/

/-- One ring record of the setup block; `rights` is a submission ring's rights code. -/
structure RingSetup where
  base : HostAddr
  size : Nat
  on : Bool
  rights : Byte
  deriving DecidableEq, Repr

/-- One port record of the setup block. -/
structure PortSetup where
  enabled : Bool
  bitRate : Nat
  window : Nat
  deriving DecidableEq, Repr

/-- The ring record at byte `n`. -/
def ringSetupAt (bs : List Byte) (n : Nat) : RingSetup :=
  { base := le64 bs n, size := (le16 bs (n + 8)).toNat, on := (byteAt bs (n + 10)).getLsbD 0,
    rights := byteAt bs (n + 11) }

/-- The record of submission ring `q`. -/
def setupRing (bs : List Byte) (q : Fin 4) : RingSetup := ringSetupAt bs (16 * q.val)

/-- The completion ring's record. -/
def setupCq (bs : List Byte) : RingSetup := ringSetupAt bs 64

/-- The event ring's record. -/
def setupEq (bs : List Byte) : RingSetup := ringSetupAt bs 80

/-- The record of port `p`. -/
def setupPort (bs : List Byte) (p : Fin 4) : PortSetup :=
  { enabled := (byteAt bs (96 + 4 * p.val)).getLsbD 0,
    bitRate := (byteAt bs (97 + 4 * p.val)).toNat,
    window := (byteAt bs (98 + 4 * p.val)).toNat }

/-- The event mask (bytes 112 and 113). -/
def setupMask (bs : List Byte) : BitVec 16 := le16 bs 112

/-- A ring's size is a power of two from 16 to 1024 and its base a multiple of 64 (R168). -/
def RingSetup.placed (r : RingSetup) : Bool :=
  [16, 32, 64, 128, 256, 512, 1024].contains r.size && aligned64 r.base

/-- A submission ring's record passes: off, or well placed with rights FULL or OBSERVE (R168). -/
def RingSetup.subOk (r : RingSetup) : Bool :=
  !r.on || (r.placed && (r.rights == 0#8 || r.rights == 1#8))

/-- A port's record passes: not enabled, or a bit rate and a window in range (R168). -/
def PortSetup.ok (p : PortSetup) : Bool :=
  !p.enabled || ([1, 2, 4, 8].contains p.bitRate && decide (8 ≤ p.window ∧ p.window ≤ 64))

/-- The rings, ports and submission rings by number. -/
def four : List (Fin 4) := [0, 1, 2, 3]

/-- The setup block passes (R168). -/
def setupPasses (bs : List Byte) : Bool :=
  four.any (fun q => (setupRing bs q).on) && four.all (fun q => (setupRing bs q).subOk) &&
    (setupCq bs).on && (setupCq bs).placed && (setupEq bs).on && (setupEq bs).placed &&
    four.all (fun p => (setupPort bs p).ok)

/-! ### Chain blocks (Table 11-9, R174) -/

/-- The sum of the 128 words of a block, modulo 65536 (R174). -/
def blockSum (bs : List Byte) : Nat :=
  ((List.range 128).map fun k => (le16 bs (2 * k)).toNat).sum % 65536

/-- The next block address field; 0 is absent (R173). -/
def blockNext (bs : List Byte) : HostAddr := le64 bs 8

/-- The bytes of a column's rows, from byte `n` (Table 11-9). -/
def columnAt (bs : List Byte) (n : Nat) : Column :=
  { target := (byteAt bs n).toNat, rows := Vector.ofFn fun i => byteAt bs (n + 4 + i.val) }

end Sys2Proof.Machine
end

