-- ==== Sys2Proof/Machine/Image.lean ====
section
/-! DEFINITION. The lane image (spec/01_the_lane_image.md): layers and the intended value, the
re-derivation of an entry in its four forms, and the write-back queue. -/

namespace Sys2Proof.Machine

/-- The first present layer (R6, Table 1-2). -/
def layered (o : LayerOrder) (base hold cal : Option Byte) : Option Byte :=
  match o with
  | .holdFirst => (hold.or cal).or base
  | .calFirst => (cal.or hold).or base

/-- An entry is managed while its intended value is present (R1). -/
def Entry.managed (e : Entry) : Bool := e.intended.isSome

/-- Re-derivation of an entry that is not PENDING from its intended and applied values: the last two
columns of Table 1-4, and R16. -/
def Entry.rederive (e : Entry) : Entry :=
  match e.intended with
  | none => { e with applied := none, state := .unmanaged, refusal := none }
  | some v =>
    if e.applied = some v then { e with state := .clean, refusal := none }
    else { e with state := .dirty, refusal := none }

/-- The intended value becomes `v` (R8, R13, R15): nothing when it is that already, a recorded change
when the entry is PENDING, otherwise re-derivation by Table 1-4. -/
def Entry.reintend (v : Option Byte) (e : Entry) : Entry :=
  if e.intended = v then e
  else if e.state = .pending then { e with intended := v }
  else Entry.rederive { e with intended := v }

/-- The three layers take new values and the intended value follows (R6, R8). -/
def Entry.setLayers (o : LayerOrder) (base hold cal : Option Byte) (e : Entry) : Entry :=
  Entry.reintend (layered o base hold cal) { e with base := base, hold := hold, cal := cal }

/-- A direct outcome makes the applied value `v` (R9, R14). An unmanaged entry takes no change; a
PENDING entry does not meet a direct outcome (R14; notes/assumptions/25.md). -/
def Entry.learn (v : Option Byte) (e : Entry) : Entry :=
  if e.managed = false ∨ e.applied = v then e
  else
    match e.state with
    | .unmanaged => e
    | .pending => { e with applied := v }
    | .clean | .dirty => Entry.rederive { e with applied := v }
    | .refused =>
      if e.intended = v then { e with applied := v, state := .clean, refusal := none }
      else { e with applied := v }

/-- A PENDING entry's write ends with the applied value given, and the entry re-derives (R16). -/
def Entry.endWrite (applied : Option Byte) (e : Entry) : Entry :=
  Entry.rederive { e with applied := applied, inFlight := none, attempts := 0 }

/-- The chip has refused the write (R12, R32, R34, R35): REFUSED when the intended value still equals
the in-flight value, otherwise re-derivation by R16. -/
def Entry.endRefused (applied : Option Byte) (reason : RefusalReason) (e : Entry) : Entry :=
  if e.intended = e.inFlight then
    { e with applied := applied, inFlight := none, attempts := 0, state := .refused,
             refusal := some reason }
  else Entry.endWrite applied e

/-- A WB grant (R11, R27). -/
def Entry.grant (e : Entry) : Entry :=
  { e with state := .pending, inFlight := e.intended, attempts := 0 }

/-- One entry at an image rebuild (R20). -/
def Entry.rebuild (e : Entry) : Entry :=
  match e.intended, e.state with
  | none, _ => e
  | some _, .pending => { e with applied := none }
  | some _, _ => { e with applied := none, state := .dirty, refusal := none }

/-- The chip addresses that have an entry, ascending (R1). -/
def addresses : List Nat := List.range' 1 63

/-- The entry of chip address `a`; an address without an entry reads as an unmanaged one. -/
def entryAt (es : Vector Entry 63) (a : Nat) : Entry :=
  if h : 1 ≤ a ∧ a ≤ 63 then es[a - 1]'(by omega) else Entry.reset

/-- The image's entry of chip address `a`. -/
def Image.get (im : Image) (a : Nat) : Entry := entryAt im.entries a

/-- Chip address `a` has a DIRTY entry. -/
def dirtyAt (es : Vector Entry 63) (a : Nat) : Bool := decide ((entryAt es a).state = .dirty)

/-- The entries after one happening, and the queue that follows from it (R18, R19): addresses no longer
DIRTY leave, those that stay DIRTY keep their places, those newly DIRTY join at the tail in
ascending order. -/
def Image.place (im : Image) (es : Vector Entry 63) : Image :=
  { entries := es,
    queue := im.queue.filter (dirtyAt es) ++
      addresses.filter (fun a => dirtyAt es a && !dirtyAt im.entries a) }

/-- One happening that acts on every entry by its chip address (R1, R19). -/
def Image.mapEntries (f : Nat → Entry → Entry) (im : Image) : Image :=
  im.place (Vector.ofFn fun i => f (i.val + 1) im.entries[i])

/-- One happening at the entry of chip address `a`. -/
def Image.modify (a : Nat) (f : Entry → Entry) (im : Image) : Image :=
  im.mapEntries fun b e => if b = a then f e else e

/-- The image rebuild of a restart (R20): the new queue is every DIRTY entry in ascending order. -/
def Image.rebuild (im : Image) : Image :=
  let es : Vector Entry 63 := Vector.ofFn fun i => im.entries[i].rebuild
  { entries := es, queue := addresses.filter (dirtyAt es) }

/-- The address of the lane's PENDING entry (R28). -/
def Image.pendingAddr (im : Image) : Option Nat :=
  addresses.find? fun a => decide ((im.get a).state = .pending)

/-- Every PENDING entry's write is cut short (R40, R57): applied absent, then R16. -/
def Image.cutShort (im : Image) : Image :=
  im.mapEntries fun _ e => if e.state = .pending then e.endWrite none else e

/-- A layer order change (R7): every intended value is taken afresh. -/
def Image.reorder (o : LayerOrder) (im : Image) : Image :=
  im.mapEntries fun _ e => e.setLayers o e.base e.hold e.cal

end Sys2Proof.Machine
end

