-- ==== Sys2Proof/Machine/Calibration.lean ====
section
/-! DEFINITION. Operating-point calibration (spec/06_operating_point_calibration.md): the row of a
reading, the hysteresis test, and what a recall puts into the cal layers. -/

namespace Sys2Proof.Machine

/-- The row of a reading (R110): (T + 40) / 5 rounded toward minus infinity, clamped to 0..31. -/
def rowOf (t : Int) : Fin 32 :=
  let r := (t + 40).fdiv 5
  if r < 0 then 0 else if h : r.toNat < 32 then ⟨r.toNat, h⟩ else 31

/-- The index after a reading in AUTO (R111), with hysteresis `h`. -/
def moveIndex (h : Nat) (index : Option (Fin 32)) (t : Int) : Fin 32 :=
  let j := rowOf t
  match index with
  | none => j
  | some i =>
    if j = i then i
    else if i < j then
      if t ≥ 5 * ((i.val : Int) + 1) - 40 + h then j else i
    else
      if t ≤ 5 * (i.val : Int) - 41 - h then j else i

/-- The cal value a recall gives address `a` (R115). -/
def calAt (table : List Column) (index : Option (Fin 32)) (a : Nat) : Option Byte :=
  match index with
  | none => none
  | some i => (table.find? fun c => c.target == a).map fun c => c.rows[i]

/-- A recall (R5, R115): every address takes its cal value in one happening. -/
def Image.recall (o : LayerOrder) (table : List Column) (index : Option (Fin 32)) (im : Image) :
    Image :=
  im.mapEntries fun a e => e.setLayers o e.base e.hold (calAt table index a)

/-- The number of addresses whose cal layer a recall changes (R118, R119). -/
def Image.recallCount (table : List Column) (index : Option (Fin 32)) (im : Image) : Nat :=
  (addresses.filter fun a => decide ((im.get a).cal ≠ calAt table index a)).length

end Sys2Proof.Machine
end

