-- ==== Sys2Proof/Machine/Flags.lean ====
section
/-! DEFINITION. Flags: a watch's comparison with its limits under the latch options
(spec/05_watches_and_poll_rounds.md, 5.5), and the interrupt causes (spec/09_events_and_interrupts.md, 9.5). -/

namespace Sys2Proof.Machine

/-- The value of a byte read by a watch (R98). -/
def readingOf (signed : Bool) (v : Byte) : Int := if signed then v.toInt else (v.toNat : Int)

/-- The value is above a present high limit (R98). -/
def aboveLimit (signed : Bool) (limit : Option Byte) (v : Byte) : Bool :=
  match limit with
  | some x => decide (readingOf signed x < readingOf signed v)
  | none => false

/-- The value is below a present low limit (R98). -/
def belowLimit (signed : Bool) (limit : Option Byte) (v : Byte) : Bool :=
  match limit with
  | some x => decide (readingOf signed v < readingOf signed x)
  | none => false

/-- The four conditions of a comparison (R98). -/
def Watch.conditions (w : Watch) (v : Byte) : Flags :=
  { al := belowLimit w.signed w.alarmLow v, ah := aboveLimit w.signed w.alarmHigh v,
    wl := belowLimit w.signed w.warnLow v, wh := aboveLimit w.signed w.warnHigh v }

/-- A flag after a comparison, under its pair's latch option (R99). -/
def latchFlag (l : Latch) (old condition : Bool) : Bool :=
  match l with
  | .live => condition
  | .latched => old || condition

/-- The flags after a comparison (R99). -/
def Flags.latch (o : Options) (old c : Flags) : Flags :=
  { al := latchFlag o.alarmLatch old.al c.al, ah := latchFlag o.alarmLatch old.ah c.ah,
    wl := latchFlag o.warnLatch old.wl c.wl, wh := latchFlag o.warnLatch old.wh c.wh }

/-- One flag's change as an event: raised from clear to set, fallen from set to clear (R100). -/
def flagEvent (lane : Fin 16) (i : Fin 8) (addr : Nat) (v : Byte) (f : WatchFlag) (old new : Bool) :
    List Event :=
  match old, new with
  | false, true => [.watchRaise lane i addr f v]
  | true, false => [.watchFall lane i addr f v]
  | true, true => []
  | false, false => []

/-- The events of a comparison in the order AL, AH, WL, WH (R100). -/
def flagEvents (lane : Fin 16) (i : Fin 8) (w : Watch) (v : Byte) (new : Flags) : List Event :=
  if w.eventEnable then
    flagEvent lane i w.address v .al w.flags.al new.al ++
    flagEvent lane i w.address v .ah w.flags.ah new.ah ++
    flagEvent lane i w.address v .wl w.flags.wl new.wl ++
    flagEvent lane i w.address v .wh w.flags.wh new.wh
  else []

/-- A watch after the comparison of a DONE value (R98, R99). -/
def Watch.compare (o : Options) (w : Watch) (v : Byte) : Watch :=
  { w with last := some v, flags := w.flags.latch o (w.conditions v) }

/-- FLAGS_CLEAR at one watch (R105): bits 0 to 3 of the mask name AL, AH, WL, WH. -/
def Flags.clearMask (f : Flags) (mask : Byte) : Flags :=
  { al := f.al && !mask.getLsbD 0, ah := f.ah && !mask.getLsbD 1,
    wl := f.wl && !mask.getLsbD 2, wh := f.wh && !mask.getLsbD 3 }

/-- The four flags as bits 0 to 3: AL, AH, WL, WH (Section 11.6). -/
def Flags.toNat (f : Flags) : Nat :=
  f.al.toNat + 2 * f.ah.toNat + 4 * f.wl.toNat + 8 * f.wh.toNat

/-- Causes of both (R163). -/
def Causes.inter (a b : Causes) : Causes :=
  { completion := a.completion && b.completion, event := a.event && b.event,
    error := a.error && b.error, state := a.state && b.state }

/-- Causes of either (R162). -/
def Causes.union (a b : Causes) : Causes :=
  { completion := a.completion || b.completion, event := a.event || b.event,
    error := a.error || b.error, state := a.state || b.state }

/-- Causes of the first that the second does not name (R162). -/
def Causes.minus (a b : Causes) : Causes :=
  { completion := a.completion && !b.completion, event := a.event && !b.event,
    error := a.error && !b.error, state := a.state && !b.state }

/-- At least one cause. -/
def Causes.any (a : Causes) : Bool := a.completion || a.event || a.error || a.state

/-- The causes that bits `k` to `k + 3` of a word name (Table 11-1). -/
def Causes.ofBits (w : Word) (k : Nat) : Causes :=
  { completion := w.getLsbD k, event := w.getLsbD (k + 1), error := w.getLsbD (k + 2),
    state := w.getLsbD (k + 3) }

/-- The causes as bits 0 to 3 (Table 11-1). -/
def Causes.toNat (a : Causes) : Nat :=
  a.completion.toNat + 2 * a.event.toNat + 4 * a.error.toNat + 8 * a.state.toNat

/-- The interrupt condition (R163): a cause both set and enabled. -/
def interruptCondition (state enable : Causes) : Bool := (state.inter enable).any

end Sys2Proof.Machine
end

