-- ==== Sys2Proof/Machine/Layout.lean ====
section
/-! DEFINITION. Layouts of what the part writes (spec/11_record_and_frame_layouts.md): codes, result
words, completion and event records, the lane report, and what the registers read. -/

namespace Sys2Proof.Machine

/-! ### Codes (Sections 11.5, 11.6) -/

/-- Lane state codes. -/
def laneStateCode : LaneState → Nat
  | .detached => 0
  | .probing => 1
  | .active => 2
  | .quiescing => 3
  | .quiesced => 4
  | .faulted => 5
  | .detaching => 6

/-- Entry state codes. -/
def entryStateCode : EntryState → Nat
  | .unmanaged => 0
  | .clean => 1
  | .dirty => 2
  | .pending => 3
  | .refused => 4

/-- Watch state codes. -/
def watchStateCode : WatchState → Nat
  | .empty => 0
  | .active => 1
  | .suspended => 2

/-- Flag codes. -/
def flagCode : WatchFlag → Nat
  | .al => 0
  | .ah => 1
  | .wl => 2
  | .wh => 3

/-- Transaction kind codes. -/
def txKindCode : TxKind → Nat
  | .check => 0
  | .ack => 1
  | .wb => 2
  | .verify => 3
  | .poll => 4
  | .directRead => 5
  | .directWrite => 6

/-- Outcome codes: detail codes 1 to 3. -/
def failureCode : Failure → Nat
  | .nak => 1
  | .noResponse => 2
  | .parity => 3

/-- Detail codes; 0 is absent (Section 11.5). -/
def detailCode : Option Detail → Nat
  | none => 0
  | some (.outcome f) => failureCode f
  | some (.chain .checksum) => 4
  | some (.chain .badBlock) => 5
  | some (.chain .badEntry) => 6
  | some (.chain .tooLong) => 7
  | some (.chain .tableFull) => 8

/-- Status codes (Section 11.5). -/
def statusCode : Status → Nat
  | .ok => 0
  | .unknownKind => 1
  | .rights => 2
  | .dupTag => 3
  | .range => 4
  | .state => 5
  | .conflict => 6
  | .busy => 7
  | .nak => 8
  | .linkFault => 9
  | .laneFault => 10
  | .chainError => 11
  | .hostMemory => 12
  | .aborted => 13
  | .timeout => 14

/-- Refusal reason codes: 0 absent, 1 NAK, 2 MISMATCH. -/
def reasonCode : Option RefusalReason → Nat
  | none => 0
  | some .nak => 1
  | some .mismatch => 2

/-- The event kind code, which is also its mask bit (Table 11-7). -/
def Event.code : Event → Nat
  | .chipRestart .. => 0
  | .linkFault .. => 1
  | .writeRefused .. => 2
  | .watchRaise .. => 3
  | .watchFall .. => 4
  | .watchRefused .. => 5
  | .indexChange .. => 6
  | .ringError .. => 7

/-- The lane of an event; RING_ERROR has none (Table 9-1). -/
def Event.lane : Event → Option (Fin 16)
  | .chipRestart l _ _ _ => some l
  | .linkFault l _ _ _ _ => some l
  | .writeRefused l _ _ _ _ => some l
  | .watchRaise l _ _ _ _ => some l
  | .watchFall l _ _ _ _ => some l
  | .watchRefused l _ _ => some l
  | .indexChange l _ _ _ _ => some l
  | .ringError _ _ => none

/-- A field whose range leaves codes unused: 0xFF is absent (R173). -/
def orFF (v : Option Nat) : Nat := v.getD 0xFF

/-- An index field. -/
def indexCode (i : Option (Fin 32)) : Nat := orFF (i.map (·.val))

/-- A field that uses every value of its byte: zero when absent (R173). -/
def orZero (v : Option Byte) : Nat := (v.getD 0).toNat

/-- A presence bit (R173). -/
def presentBit {α : Type} (v : Option α) : Nat := v.isSome.toNat

/-! ### Result words (Table 11-6) -/

/-- A result from its four bytes, byte 0 first. A byte or bit of a result that Table 11-6 does not list is
written 0 (DESIGN CHOICE, notes/assumptions/30.md). -/
def resultWord (b0 b1 b2 b3 : Nat) : Word :=
  BitVec.ofNat 32 (b0 + 256 * b1 + 65536 * b2 + 16777216 * b3)

/-- REG_SET OK. -/
def regSetResult (e : Entry) : Word :=
  resultWord (orZero e.intended) (presentBit e.intended + 16 * entryStateCode e.state) 0 0

/-- LANE_SYNC, any status but refusals; LANE_REPORT OK. -/
def syncResult (L : Lane) : Word :=
  resultWord (laneStateCode L.state) L.image.queue.length 0 0

/-- LANE_SET OK; bits 21 to 31, which Table 11-6 does not list, are 0 (DESIGN CHOICE,
notes/assumptions/30.md). -/
def optionsResult (o : Options) : Word :=
  BitVec.ofNat 32 (o.pollPeriod + 2 ^ 10 * o.retryLimit + 2 ^ 12 * o.verify.toNat +
    2 ^ 13 * (decide (o.layerOrder = .calFirst)).toNat + 2 ^ 14 * o.hysteresis +
    2 ^ 17 * (decide (o.indexMode = .manual)).toNat +
    2 ^ 18 * (decide (o.alarmLatch = .latched)).toNat +
    2 ^ 19 * (decide (o.warnLatch = .latched)).toNat + 2 ^ 20 * o.indexEvents.toNat)

/-- The option bits of a watch (Table 11-9, byte 3). -/
def watchOptionBits (w : Watch) : Nat :=
  w.signed.toNat + 2 * w.tempSource.toNat + 4 * w.eventEnable.toNat

/-- The limit presence bits of a watch (Table 11-9, byte 4). -/
def watchPresenceBits (w : Watch) : Nat :=
  presentBit w.alarmLow + 2 * presentBit w.alarmHigh + 4 * presentBit w.warnLow +
    8 * presentBit w.warnHigh

/-- WATCH_SET OK. -/
def watchSetResult (w : Watch) : Word :=
  resultWord (watchStateCode w.state) w.address (watchOptionBits w) (watchPresenceBits w)

/-- FLAGS_CLEAR OK: watch n's flags in bits 4n to 4n+3. -/
def flagsResult (ws : Vector Watch 8) : Word :=
  BitVec.ofNat 32 (ws[0].flags.toNat + 2 ^ 4 * ws[1].flags.toNat + 2 ^ 8 * ws[2].flags.toNat +
    2 ^ 12 * ws[3].flags.toNat + 2 ^ 16 * ws[4].flags.toNat + 2 ^ 20 * ws[5].flags.toNat +
    2 ^ 24 * ws[6].flags.toNat + 2 ^ 28 * ws[7].flags.toNat)

/-- LANE_QUIESCE OK: the address ended short, and the kind and outcome of a failure that the quiesce
took. -/
def quiesceResult (short : Option Nat) (failure : Option (TxKind × Failure)) : Word :=
  resultWord (orFF short) (orFF (failure.map fun x => txKindCode x.1))
    ((failure.map fun x => failureCode x.2).getD 0) 0

/-- The entry state byte of a direct result: 0xFF for an unmanaged address and for address 0 (R85). -/
def directStateByte (e : Entry) : Nat :=
  match e.intended with
  | some _ => entryStateCode e.state
  | none => 0xFF

/-- A direct request's result after its frame ended; `value` is the value a DIRECT_READ read. -/
def directResult (value : Option Byte) (retries : Nat) (e : Entry) : Word :=
  resultWord (orZero value) retries (directStateByte e) (presentBit value)

/-- CHAIN_LOAD CHAIN_ERROR, HOST_MEMORY and ABORTED. -/
def loadFailResult (blocksRead position : Nat) : Word := resultWord blocksRead position 0 0

/-- CHAIN_LOAD OK. -/
def loadOkResult (blocksRead baseChanged columns watchesSet queueLength : Nat) : Word :=
  resultWord blocksRead baseChanged (columns + 16 * watchesSet) queueLength

/-! ### Records (Tables 11-5, 11-7, 11-8) -/

/-- One byte for each number. -/
def toBytes (ns : List Nat) : List Byte := ns.map (BitVec.ofNat 8)

/-- A number as `n` bytes, the least significant first (R173). -/
def leBytes (n v : Nat) : List Byte := (List.range n).map fun i => BitVec.ofNat 8 (v / 256 ^ i)

/-- The first `n` bytes of a list, with zeros after its end. -/
def padTo (n : Nat) (bs : List Byte) : List Byte := (bs ++ List.replicate n 0#8).take n

/-- A completion record (Table 11-5). Bits 2 to 7 of bytes 2 and 15, which the table does not name, are 0
(DESIGN CHOICE, notes/assumptions/30.md). -/
def completionRecord (id : CmdId) (status : Status) (detail : Option Detail) (lane : Option Byte)
    (head : Nat) (result : Option Word) (phase : Bool) : List Byte :=
  leBytes 2 id.tag.toNat ++ [BitVec.ofNat 8 id.ring.val, BitVec.ofNat 8 (statusCode status),
    BitVec.ofNat 8 (detailCode detail), lane.getD 0xFF#8] ++ leBytes 2 head ++
    leBytes 4 ((result.getD 0).toNat) ++
    [0, 0, 0, BitVec.ofNat 8 (phase.toNat + 2 * presentBit result)]

/-- The kind-specific content of an event record, byte 4 first (Table 11-8). Bits 1 to 7 of a byte of which
the table names only bit 0 are 0 (DESIGN CHOICE, notes/assumptions/30.md). -/
def eventContent : Event → List Nat
  | .chipRestart _ count found qlen => [count, laneStateCode found, qlen]
  | .linkFault _ left kind addr f => [laneStateCode left, txKindCode kind, addr, failureCode f]
  | .writeRefused _ addr v reason rb =>
    [addr, v.toNat, reasonCode (some reason), orZero rb, presentBit rb]
  | .watchRaise _ i addr flag v => [i.val, addr, flagCode flag, v.toNat]
  | .watchFall _ i addr flag v => [i.val, addr, flagCode flag, v.toNat]
  | .watchRefused _ i addr => [i.val, addr]
  | .indexChange _ old new cause t =>
    [indexCode old, indexCode new, (decide (cause = .command)).toNat, orZero t, presentBit t]
  | .ringError q cause => [q.val, (decide (cause = .readError)).toNat]

/-- An event record (Table 11-7). Bits 1 to 7 of byte 15, which the table does not name, are 0 (DESIGN CHOICE,
notes/assumptions/30.md). -/
def eventRecord (e : Event) (lost : Nat) (phase : Bool) : List Byte :=
  [BitVec.ofNat 8 e.code, BitVec.ofNat 8 (orFF (e.lane.map (·.val)))] ++ leBytes 2 lost ++
    padTo 10 (toBytes (eventContent e)) ++ [0, BitVec.ofNat 8 phase.toNat]

/-! ### Lane report (Table 11-10) -/

/-- An option block with the lane's values (Section 11.4). -/
def optionBytes (o : Options) : List Byte :=
  leBytes 2 o.pollPeriod ++
    toBytes [o.retryLimit, o.verify.toNat, (decide (o.layerOrder = .calFirst)).toNat, o.hysteresis,
      (decide (o.indexMode = .manual)).toNat, (decide (o.alarmLatch = .latched)).toNat,
      (decide (o.warnLatch = .latched)).toNat, o.indexEvents.toNat]

/-- An entry record of the report (Section 11.8). Bits 6 and 7 of byte 6 and bit 7 of byte 7, which the section
does not name, are 0 (DESIGN CHOICE, notes/assumptions/30.md). -/
def entryBytes (e : Entry) : List Byte :=
  toBytes [orZero e.base, orZero e.hold, orZero e.cal, orZero e.intended, orZero e.applied,
    orZero e.inFlight,
    presentBit e.base + 2 * presentBit e.hold + 4 * presentBit e.cal + 8 * presentBit e.intended +
      16 * presentBit e.applied + 32 * presentBit e.inFlight,
    entryStateCode e.state + 8 * e.attempts + 32 * reasonCode e.refusal]

/-- A watch slot of the report (Section 11.8). Bytes 9 to 11 of the watch record, which Table 11-9 marks "not
checked", and the bits of bytes 3, 4, 13 and 14 that it does not name, are written 0 (DESIGN CHOICE,
notes/assumptions/30.md). -/
def watchBytes (i : Nat) (w : Watch) : List Byte :=
  toBytes [i, watchStateCode w.state, w.address, watchOptionBits w, watchPresenceBits w,
    orZero w.alarmLow, orZero w.alarmHigh, orZero w.warnLow, orZero w.warnHigh, 0, 0, 0,
    orZero w.last, presentBit w.last, w.flags.toNat, 0]

/-- A column slot of the report (Table 11-9). Bytes 1 to 3, which the table marks "not checked", are written 0
(DESIGN CHOICE, notes/assumptions/30.md). -/
def columnBytes (c : Column) : List Byte :=
  [BitVec.ofNat 8 c.target, 0, 0, 0] ++ c.rows.toList

/-- An element goes before the first one whose key is not below its own. -/
def insertOn {α : Type} (key : α → Nat) (x : α) : List α → List α
  | [] => [x]
  | y :: ys => if key x ≤ key y then x :: y :: ys else y :: insertOn key x ys

/-- A list in ascending order of a key, equal keys in the order they had. -/
def sortOn {α : Type} (key : α → Nat) : List α → List α
  | [] => []
  | x :: xs => insertOn key x (sortOn key xs)

/-- The columns in ascending order of target address (R109). -/
def sortColumns (cs : List Column) : List Column := sortOn (·.target) cs

/-- Probe purpose code: 0 ATTACH, 1 RESUME, 0xFF absent. -/
def purposeCode : Option ProbePurpose → Nat
  | some .attach => 0
  | some .resume => 1
  | none => 0xFF

/-- The lane report (Table 11-10) of a lane and of the port it is bound to. -/
def reportBytes (L : Lane) (port : Option Port) : List Byte :=
  toBytes [laneStateCode L.state, orFF (L.binding.map (·.port.val)), orFF (L.binding.map (·.select.val)),
    purposeCode L.purpose] ++
  optionBytes L.options ++
  [BitVec.ofNat 8 (indexCode L.index), BitVec.ofNat 8 L.restartCount] ++
  leBytes 2 L.overrunCount ++
  toBytes [L.waiters.length, L.image.queue.length, L.table.length,
    ((port.map fun p => p.enabled.toNat).getD 0), ((port.map (·.bitRate)).getD 0),
    ((port.map (·.window)).getD 0)] ++
  List.replicate 8 0#8 ++
  padTo 64 (toBytes L.image.queue) ++
  (L.image.entries.toList.map entryBytes).flatten ++
  (watchBytes 0 L.watches[0] ++ watchBytes 1 L.watches[1] ++ watchBytes 2 L.watches[2] ++
    watchBytes 3 L.watches[3] ++ watchBytes 4 L.watches[4] ++ watchBytes 5 L.watches[5] ++
    watchBytes 6 L.watches[6] ++ watchBytes 7 L.watches[7]) ++
  padTo 288 ((sortColumns L.table).map columnBytes).flatten ++
  List.replicate 8 0#8

/-! ### What the registers read (R164, R165, Table 11-1) -/

/-- Device state codes. -/
def deviceCode : DeviceState → Nat
  | .halted => 0
  | .starting => 1
  | .running => 2
  | .stopping => 3
  | .resetting => 4

/-- Error codes. -/
def errorCodeNat : ErrorCode → Nat
  | .none => 0
  | .setupRead => 1
  | .setupInvalid => 2
  | .hostWrite => 3

/-- Ring state codes. -/
def ringStateCode : RingState → Nat
  | .off => 0
  | .active => 1
  | .error => 2

/-- STATUS. -/
def State.statusWord (s : State) : Word :=
  BitVec.ofNat 32 (deviceCode s.device + 2 ^ 3 * errorCodeNat s.errorCode +
    2 ^ 5 * s.badPost.toNat + 2 ^ 6 * s.badReturn.toNat +
    2 ^ 8 * ringStateCode s.rings[0].state + 2 ^ 10 * ringStateCode s.rings[1].state +
    2 ^ 12 * ringStateCode s.rings[2].state + 2 ^ 14 * ringStateCode s.rings[3].state +
    2 ^ 16 * s.intState.toNat)

/-- What a read of a register returns; a read changes no state (R164). -/
def State.readRegister (s : State) : WindowReg → Word
  | .ident => BitVec.ofNat 32 (Config.familyCode.toNat + 65536 * Config.siliconRevision.toNat)
  | .control => 0
  | .status => s.statusWord
  | .intEnable => BitVec.ofNat 32 s.intEnable.toNat
  | .setupLow => s.setupBase.extractLsb' 0 32
  | .setupHigh => s.setupBase.extractLsb' 32 32
  | .post => 0
  | .ringReturn => 0

end Sys2Proof.Machine
end

