-- ==== Sys2Proof/Machine/Link.lean ====
section
/-! DEFINITION. The lane link (spec/04_lane_link_ports.md): frames, their outcomes and durations, and a
lane's next transaction. -/

namespace Sys2Proof.Machine

/-! ### Frames (R69 to R72) -/

/-- The kind of a transaction (Table 4-5). -/
def Tx.kind : Tx → TxKind
  | .check => .check
  | .ack => .ack
  | .wb _ _ => .wb
  | .verify _ => .verify
  | .poll _ _ => .poll
  | .directRead _ => .directRead
  | .directWrite _ _ => .directWrite

/-- The chip address a transaction's frame names (Table 4-5). -/
def Tx.addr : Tx → Nat
  | .check => 0
  | .ack => 0
  | .wb a _ => a
  | .verify a => a
  | .poll _ a => a
  | .directRead a => a
  | .directWrite a _ => a

/-- The value a write frame carries; a read frame carries none (Table 4-5). -/
def Tx.written : Tx → Option Byte
  | .ack => some Config.ackValue
  | .wb _ v => some v
  | .directWrite _ v => some v
  | .check => none
  | .verify _ => none
  | .poll _ _ => none
  | .directRead _ => none

/-- A direct transaction (Section 4.8). -/
def Tx.isDirect : Tx → Bool
  | .directRead _ => true
  | .directWrite _ _ => true
  | .check => false
  | .ack => false
  | .wb _ _ => false
  | .verify _ => false
  | .poll _ _ => false

/-- The `n` low bits of a number, the most significant first (Section 11.9). -/
def msbFirst (n v : Nat) : List Bool := (List.range n).map fun i => v.testBit (n - 1 - i)

/-- The bits that the request parity covers: operation (1 read, 0 write), address, data (R69, 11.9). -/
def Tx.coveredBits (tx : Tx) : List Bool :=
  match tx.written with
  | none => true :: msbFirst 6 tx.addr
  | some v => false :: (msbFirst 6 tx.addr ++ msbFirst 8 v.toNat)

/-- Odd number of ones. -/
def oddOnes (bs : List Bool) : Bool := bs.foldr Bool.xor false

/-- The bits of the request in the order they pass: start bit 0, the covered bits, and the parity bit
that makes their ones even (R69, Section 11.9). -/
def Tx.requestBits (tx : Tx) : List Bool :=
  false :: (tx.coveredBits ++ [oddOnes tx.coveredBits])

/-- The start bit was seen within the port's response window (R70). -/
def answerSeen (window : Nat) (a : FrameAnswer) : Bool :=
  match a.startBit with
  | some t => decide (t ≤ window)
  | none => false

/-- The eight read data bits and the read parity bit hold an even number of ones (R70). -/
def readParityEven (a : FrameAnswer) : Bool := oddOnes (msbFirst 8 a.data.toNat) == a.parity

/-- The outcome of a frame (R71): answer code 1 then 0 is ACK, 0 then 1 is NAK (R70). -/
def settle (window : Nat) (tx : Tx) (a : FrameAnswer) : FrameOutcome :=
  if answerSeen window a = false then .failed .noResponse
  else
    match a.code1, a.code2 with
    | true, false =>
      if tx.written.isNone && !readParityEven a then .failed .parity else .done a.data
    | false, true => .failed .nak
    | false, false => .failed .parity
    | true, true => .failed .parity

/-- Bit times with select low (Table 4-2, R72). -/
def frameBitTimes (window : Nat) (tx : Tx) (a : FrameAnswer) : Nat :=
  match tx.written, a.startBit, answerSeen window a with
  | none, some t, true => if a.code1 = true ∧ a.code2 = false then 21 + t else 12 + t
  | none, _, _ => 9 + window
  | some _, some t, true => 20 + t
  | some _, _, _ => 17 + window

/-- Bit times a port is occupied by a transaction: two of select set-up, then the frame (R72). -/
def portBitTimes (window : Nat) (tx : Tx) (a : FrameAnswer) : Nat := 2 + frameBitTimes window tx a

/-- The bound of R176 on a poll round of a lane with `w` ACTIVE watches at turnaround `t`. -/
def roundBound (w t : Nat) : Nat := (4 + 4 * w) * (23 + t)

/-! ### A lane's next transaction (R75, R76) -/

/-- The watch indices in order. -/
def watchIndices : List (Fin 8) := [0, 1, 2, 3, 4, 5, 6, 7]

/-- A watch index lies above a round's position (R94). -/
def abovePosition (position : Option (Fin 8)) (i : Fin 8) : Bool :=
  match position with
  | none => true
  | some p => decide (p < i)

/-- The round's next POLL: the lowest-numbered ACTIVE watch above the position, once the CHECK has been
taken (R94). -/
def Lane.nextPoll (L : Lane) : Option (Fin 8) :=
  match L.round with
  | some (.polling p) =>
    watchIndices.find? fun i => abovePosition p i && decide (L.watches[i].state = .active)
  | some .atCheck => none
  | none => none

/-- A choice of R75 with what fixes its transaction. -/
inductive Choice where
  | retry (tx : Tx)
  | verify (addr : Nat)
  | ack
  | check
  | direct (tx : Tx)
  | poll (watch : Fin 8) (addr : Nat)
  | wb (addr : Nat) (value : Byte)
  deriving DecidableEq, Repr

/-- The transaction of a direct request. -/
def DirectReq.tx (r : DirectReq) : Tx :=
  match r.value with
  | none => .directRead r.addr
  | some v => .directWrite r.addr v

/-- Choice 1. -/
def Lane.retryChoice (L : Lane) : Option Choice := L.retryDue.map .retry

/-- Choice 2: the VERIFY of the PENDING entry. -/
def Lane.verifyChoice (L : Lane) : Option Choice :=
  if L.verifyDue then L.image.pendingAddr.map .verify else none

/-- Choice 3. -/
def Lane.ackChoice (L : Lane) : Option Choice := if L.ackDue then some .ack else none

/-- Choice 4. -/
def Lane.checkChoice (L : Lane) : Option Choice := if L.checkDue then some .check else none

/-- Choice 5: the oldest direct request. -/
def Lane.directChoice (L : Lane) : Option Choice := L.directs.head?.map fun r => .direct r.tx

/-- Choice 6. -/
def Lane.pollChoice (L : Lane) : Option Choice :=
  L.nextPoll.map fun i => .poll i L.watches[i].address

/-- Choice 7: the queue head with its intended value as it stands (R27). -/
def Lane.wbChoice (L : Lane) : Option Choice :=
  L.image.queue.head?.map fun a => .wb a ((L.image.get a).intended.getD 0)

/-- The lane's next transaction when no frame of the lane is in flight (R75), among the choices its
state offers (R76, Table 3-1). -/
def Lane.choice (L : Lane) : Option Choice :=
  match L.state with
  | .probing => L.retryChoice <|> L.ackChoice <|> L.checkChoice
  | .active =>
    L.retryChoice <|> L.verifyChoice <|> L.ackChoice <|> L.checkChoice <|> L.directChoice <|>
      L.pollChoice <|> L.wbChoice
  | .quiesced => L.retryChoice <|> L.directChoice
  | .faulted => L.retryChoice <|> L.directChoice
  | .quiescing => none
  | .detaching => none
  | .detached => none

/-- The transaction of a choice (Table 4-5). -/
def Choice.tx : Choice → Tx
  | .retry tx => tx
  | .verify a => .verify a
  | .ack => .ack
  | .check => .check
  | .direct tx => tx
  | .poll i a => .poll i a
  | .wb a v => .wb a v

/-- The lane at the grant of a choice (R27, R76, R79): a due retry or VERIFY is taken, a new CHECK, ACK
or POLL starts its retry count at 0, a WB makes the queue head PENDING. -/
def Lane.granted (L : Lane) : Choice → Lane
  | .retry _ => { L with retryDue := none }
  | .verify _ => { L with verifyDue := false }
  | .ack => { L with retryCount := 0 }
  | .check => { L with retryCount := 0 }
  | .direct _ => L
  | .poll _ _ => { L with retryCount := 0, stalePoll := false }
  | .wb a _ => { L with image := L.image.modify a Entry.grant }

/-- The watch whose POLL is in flight or due for retry (R104). -/
def Lane.pollOutstanding (L : Lane) (inFlight : Option Tx) : Option (Fin 8) :=
  match inFlight, L.retryDue with
  | some (.poll i _), _ => some i
  | _, some (.poll i _) => some i
  | _, _ => none

/-- The round ends when it has no next POLL to offer (R94) and no POLL of it is outstanding
(notes/assumptions/12.md). -/
def Lane.settleRound (L : Lane) (inFlight : Option Tx) : Lane :=
  match L.round with
  | some (.polling _) =>
    if L.nextPoll = none ∧ L.pollOutstanding inFlight = none then { L with round := none } else L
  | some .atCheck => L
  | none => L

end Sys2Proof.Machine
end

