-- ==== Sys2Proof/Machine/Lane.lean ====
section
/-! DEFINITION. What a happening does at one lane (spec/01 to spec/06): the lane after it, the events it
raises in their order, and the commands it finishes. Nothing here reads or writes another lane. -/

namespace Sys2Proof.Machine

/-- What the owning block gives the Command Unit when it finishes a command (R146). -/
structure Completion where
  id : CmdId
  status : Status
  detail : Option Detail
  result : Option Word
  deriving DecidableEq, Repr

/-- One happening at a lane. `waiters` are the SYNC waiters it completes, in waiter list order (R67);
`done` are the other commands it finishes, which take their places by fetch order (R146). -/
structure LaneOut where
  lane : Lane
  events : List Event
  done : List Completion
  waiters : List Completion
  deriving DecidableEq, Repr

/-- A lane that changes and reports nothing. -/
def Lane.out (L : Lane) : LaneOut := { lane := L, events := [], done := [], waiters := [] }

/-- The transition command completes, if there is one (R52, R53, R60, R64). -/
def Lane.transitionDone (L : Lane) (status : Status) (detail : Option Detail)
    (result : Option Word) : List Completion :=
  (L.transition.map fun id =>
    { id := id, status := status, detail := detail, result := result }).toList

/-! ### In sync (R46, R67) -/

/-- The lane is in sync (R46). -/
def Lane.inSync (L : Lane) : Bool :=
  decide (L.state = .active) && L.image.queue.isEmpty && L.image.pendingAddr.isNone

/-- The completions of all the lane's waiters with one status, in waiter list order; each carries the
state and queue length of the lane as it stands (R67). -/
def Lane.waiterCompletions (L : Lane) (status : Status) : List Completion :=
  L.waiters.map fun w =>
    { id := w.id, status := status, detail := none, result := some (syncResult L) }

/-- If the happening has left the lane in sync, every waiter completes OK at it (R46, R67). -/
def LaneOut.settleSync (o : LaneOut) : LaneOut :=
  if o.lane.inSync then
    { o with lane := { o.lane with waiters := [] },
             waiters := o.waiters ++ o.lane.waiterCompletions .ok }
  else o

/-! ### Faults (R52, R57, R58) -/

/-- The lane without any due automatic work, round or retry (R52, R57). -/
def Lane.dropAutomatic (L : Lane) : Lane :=
  { L with checkDue := false, ackDue := false, verifyDue := false, retryDue := none,
           retryCount := 0, round := none, stalePoll := false }

/-- An ACTIVE lane becomes FAULTED (R57): a PENDING entry's write ends, the round is abandoned, waiters
complete LANE_FAULT, LINK_FAULT is raised (R58). -/
def Lane.fault (l : Fin 16) (L : Lane) (tx : Tx) (f : Failure) : LaneOut :=
  let L' := { L.dropAutomatic with state := .faulted, image := L.image.cutShort }
  { lane := { L' with waiters := [] },
    events := [.linkFault l .active tx.kind tx.addr f],
    done := [],
    waiters := L'.waiterCompletions .laneFault }

/-- A probe fails (R52). -/
def Lane.probeFail (l : Fin 16) (L : Lane) (tx : Tx) (f : Failure) : LaneOut :=
  let L' := { L.dropAutomatic with state := .faulted, purpose := none }
  { lane := { L' with waiters := [], transition := none },
    events := [.linkFault l .probing tx.kind tx.addr f],
    done := L.transitionDone .linkFault (some (.outcome f)) none,
    waiters := L'.waiterCompletions .laneFault }

/-- An automatic transaction fails for good: a PROBING lane's probe fails, an ACTIVE lane faults, and no
other lane faults (R52, R57). -/
def Lane.fail (l : Fin 16) (L : Lane) (tx : Tx) (f : Failure) : LaneOut :=
  match L.state with
  | .probing => L.probeFail l tx f
  | .active => L.fault l tx f
  | .detached => L.out
  | .quiescing => L.out
  | .quiesced => L.out
  | .faulted => L.out
  | .detaching => L.out

/-- A CHECK, ACK or POLL fails (R74, R76): a NAK is final, otherwise a retry is due while the retries made
are fewer than the limit as it stands. -/
def Lane.retryOrFail (l : Fin 16) (L : Lane) (tx : Tx) (f : Failure) : LaneOut :=
  if f ≠ .nak ∧ L.retryCount < L.options.retryLimit then
    Lane.out { L with retryDue := some tx, retryCount := L.retryCount + 1 }
  else L.fail l tx f

/-! ### Probe and restart handling (R50 to R56) -/

/-- The result of a probe's success (R53). -/
def probeResult (purpose : Option ProbePurpose) (found : Bool) (restartCount : Nat) : Option Word :=
  match purpose with
  | some .attach => some (resultWord found.toNat 0 0 0)
  | some .resume => some (resultWord found.toNat restartCount 0 0)
  | none => none

/-- A probe ends in ACTIVE (R53); `found`: the marker was found set. -/
def Lane.probeEnd (L : Lane) (found : Bool) : LaneOut :=
  { lane := { L with state := .active, purpose := none, transition := none, pollTimer := 0 },
    events := [],
    done := L.transitionDone .ok none (probeResult L.purpose found L.restartCount),
    waiters := [] }

/-- Restart handling (R54, R55): the count, the rebuild of the image, ACK due, and CHIP_RESTART with the
state in which the marker was found. -/
def Lane.restart (l : Fin 16) (L : Lane) : LaneOut :=
  let count := min (L.restartCount + 1) Config.restartMax
  let image := L.image.rebuild
  { lane := { L with restartCount := count, image := image, ackDue := true },
    events := [.chipRestart l count L.state image.queue.length],
    done := [], waiters := [] }

/-- The top bit of a status byte (R73). -/
def restartMarker (v : Byte) : Bool := v.getLsbD 7

/-- The round once its CHECK has been taken (R94). -/
def checkTaken : Option Round → Option Round
  | some .atCheck => some (.polling none)
  | r => r

/-- A CHECK outcome (R50, R54, R57). -/
def Lane.takeCheck (l : Fin 16) (L : Lane) : FrameOutcome → LaneOut
  | .done v =>
    match L.state with
    | .probing =>
      let L1 := { L with checkDue := false }
      if restartMarker v then
        match L.purpose with
        | some .resume => L1.restart l
        | some .attach => Lane.out { L1 with ackDue := true }
        | none => Lane.out { L1 with ackDue := true }
      else L1.probeEnd false
    | .active =>
      let L1 := Lane.settleRound { L with checkDue := false, round := checkTaken L.round } none
      if restartMarker v then L1.restart l else L1.out
    | .detached => L.out
    | .quiescing => L.out
    | .quiesced => L.out
    | .faulted => L.out
    | .detaching => L.out
  | .failed f => L.retryOrFail l .check f

/-- An ACK outcome (R51, R56). -/
def Lane.takeAck (l : Fin 16) (L : Lane) : FrameOutcome → LaneOut
  | .done _ =>
    let L1 := { L with ackDue := false }
    if L.state = .probing then L1.probeEnd true else L1.out
  | .failed f => L.retryOrFail l .ack f

/-! ### Write-back (R29 to R41) -/

/-- What an outcome of a write's frame leads to (Table 2-1). -/
inductive WriteVerdict where
  | verifyDue
  | again (tx : Tx) (image : Image)
  | ended (image : Image) (events : List Event)
  | exhausted (image : Image)
  deriving DecidableEq, Repr

/-- WRITE_REFUSED, raised when the refusal makes the entry REFUSED (R41). -/
def refusalEvents (l : Fin 16) (a : Nat) (e : Entry) (reason : RefusalReason)
    (readBack : Option Byte) : List Event :=
  if e.intended = e.inFlight then
    [.writeRefused l a (e.inFlight.getD 0) reason readBack]
  else []

/-- The attempts field rises by one (R33, R34, R36). -/
def Entry.attempt (e : Entry) : Entry := { e with attempts := e.attempts + 1 }

/-- A failed frame of a write (R33, R36, R37): `tx` is repeated while an attempt remains (R38). -/
def Lane.writeFailed (L : Lane) (a : Nat) (tx : Tx) : WriteVerdict :=
  if (L.image.get a).attempts < L.options.retryLimit then
    .again tx (L.image.modify a Entry.attempt)
  else .exhausted (L.image.modify a (Entry.endWrite none))

/-- The outcome of a WB frame of address `a` (R31, R32, R33, R37). -/
def Lane.wbVerdict (l : Fin 16) (L : Lane) (a : Nat) (v : Byte) : FrameOutcome → WriteVerdict
  | .done _ =>
    if L.options.verify then .verifyDue
    else .ended (L.image.modify a fun e => e.endWrite e.inFlight) []
  | .failed .nak =>
    .ended (L.image.modify a fun e => e.endRefused e.applied .nak)
      (refusalEvents l a (L.image.get a) .nak none)
  | .failed .noResponse => L.writeFailed a (.wb a v)
  | .failed .parity => L.writeFailed a (.wb a v)

/-- The outcome of a VERIFY of address `a` (R34, R35, R36, R37). -/
def Lane.verifyVerdict (l : Fin 16) (L : Lane) (a : Nat) : FrameOutcome → WriteVerdict
  | .done v =>
    let e := L.image.get a
    if e.inFlight = some v then .ended (L.image.modify a fun e => e.endWrite e.inFlight) []
    else if e.attempts < L.options.retryLimit then
      .again (.wb a (e.inFlight.getD 0)) (L.image.modify a Entry.attempt)
    else
      .ended (L.image.modify a fun e => e.endRefused (some v) .mismatch)
        (refusalEvents l a e .mismatch (some v))
  | .failed .nak =>
    .ended (L.image.modify a fun e => e.endRefused none .nak)
      (refusalEvents l a (L.image.get a) .nak none)
  | .failed .noResponse => L.writeFailed a (.verify a)
  | .failed .parity => L.writeFailed a (.verify a)

/-- The verdict on a frame of the lane's write; a frame whose entry is not PENDING ends nothing
(notes/assumptions/25.md). -/
def Lane.writeVerdict (l : Fin 16) (L : Lane) (tx : Tx) (o : FrameOutcome) : WriteVerdict :=
  if (L.image.get tx.addr).state = .pending then
    match tx with
    | .wb a v => L.wbVerdict l a v o
    | .verify a => L.verifyVerdict l a o
    | .check => .ended L.image []
    | .ack => .ended L.image []
    | .poll _ _ => .ended L.image []
    | .directRead _ => .ended L.image []
    | .directWrite _ _ => .ended L.image []
  else .ended L.image []

/-- The failure of an outcome; DONE has none. -/
def FrameOutcome.failure : FrameOutcome → Option Failure
  | .done _ => none
  | .failed f => some f

/-- A WB or VERIFY outcome in a state other than QUIESCING (Table 2-1). -/
def Lane.takeWrite (l : Fin 16) (L : Lane) (tx : Tx) (o : FrameOutcome) : LaneOut :=
  match L.writeVerdict l tx o with
  | .verifyDue => Lane.out { L with verifyDue := true }
  | .again tx' im => Lane.out { L with image := im, retryDue := some tx' }
  | .ended im evs => { Lane.out { L with image := im } with events := evs }
  | .exhausted im => Lane.fail l { L with image := im } tx (o.failure.getD .noResponse)

/-! ### Poll outcomes (R95, R98 to R101, R104, R107, R111) -/

/-- The lane's watch `i` is replaced by `w`; a POLL of it in flight or due for retry becomes stale
(R103, R104, R131). -/
def Lane.replaceWatch (L : Lane) (inFlight : Option Tx) (i : Fin 8) (w : Watch) : Lane :=
  { L with watches := L.watches.set i w,
           stalePoll := L.stalePoll || decide (L.pollOutstanding inFlight = some i) }

/-- The index becomes `new` with a recall, and INDEX_CHANGE when index events are on (R111, R114, R115,
R118); nothing when it is `new` already. -/
def Lane.setIndex (l : Fin 16) (L : Lane) (new : Option (Fin 32)) (cause : IndexCause)
    (temperature : Option Byte) : LaneOut :=
  if L.index = new then L.out
  else
    { lane := { L with index := new, image := L.image.recall L.options.layerOrder L.table new },
      events := if L.options.indexEvents then [.indexChange l L.index new cause temperature] else [],
      done := [], waiters := [] }

/-- A reading of the temperature source is handed to the Calibration Unit (R107, R111, R113). -/
def Lane.handOff (l : Fin 16) (L : Lane) (v : Byte) : LaneOut :=
  match L.options.indexMode with
  | .manual => L.out
  | .auto => L.setIndex l (some (moveIndex L.options.hysteresis L.index v.toInt)) .reading (some v)

/-- A DONE value of watch `i` that is not stale: comparison, events, then the hand-off (R98 to R100,
R107). -/
def Lane.takeReading (l : Fin 16) (L : Lane) (i : Fin 8) (v : Byte) : LaneOut :=
  let w := L.watches[i]
  let w' := w.compare L.options v
  let L1 := { L with watches := L.watches.set i w' }
  let evs := flagEvents l i w v w'.flags
  if w.tempSource then
    let o := L1.handOff l v
    { o with events := evs ++ o.events }
  else { L1.out with events := evs }

/-- A POLL of watch `i` ends NAK and is not stale (R101). -/
def Lane.suspendWatch (l : Fin 16) (L : Lane) (i : Fin 8) : LaneOut :=
  let w := L.watches[i]
  { Lane.out { L with watches := L.watches.set i { w with state := .suspended } } with
    events := [.watchRefused l i w.address] }

/-- The watch's part of a POLL outcome; a stale POLL has none (R104). -/
def Lane.pollEffect (l : Fin 16) (L : Lane) (i : Fin 8) (o : FrameOutcome) : LaneOut :=
  if L.stalePoll then L.out
  else
    match o with
    | .done v => L.takeReading l i v
    | .failed .nak => L.suspendWatch l i
    | .failed .noResponse => L.out
    | .failed .parity => L.out

/-- The round's position moves to watch `i`, and the round continues or ends (R94, R95). -/
def Lane.movePosition (L : Lane) (i : Fin 8) : Lane :=
  Lane.settleRound { L with round := L.round.map fun _ => .polling (some i), stalePoll := false } none

/-- A POLL outcome in a state other than QUIESCING (R95, R104). -/
def Lane.takePoll (l : Fin 16) (L : Lane) (i : Fin 8) (addr : Nat) (o : FrameOutcome) : LaneOut :=
  match o with
  | .failed .noResponse => L.retryOrFail l (.poll i addr) .noResponse
  | .failed .parity => L.retryOrFail l (.poll i addr) .parity
  | .failed .nak =>
    let out := L.pollEffect l i o
    { out with lane := out.lane.movePosition i }
  | .done _ =>
    let out := L.pollEffect l i o
    { out with lane := out.lane.movePosition i }

/-! ### Direct outcomes (R85, R87, R89) -/

/-- A write's value becomes the applied value at a DONE or an exhausted DIRECT_WRITE; a DIRECT_READ's
value at a DONE (R85, R87). -/
def DirectReq.image (r : DirectReq) (o : FrameOutcome) (im : Image) : Image :=
  match o, r.value with
  | .done v, none => im.modify r.addr (Entry.learn (some v))
  | .done _, some v => im.modify r.addr (Entry.learn (some v))
  | .failed .nak, _ => im
  | .failed .noResponse, none => im
  | .failed .parity, none => im
  | .failed .noResponse, some _ => im.modify r.addr (Entry.learn none)
  | .failed .parity, some _ => im.modify r.addr (Entry.learn none)

/-- The value a DIRECT_READ read. -/
def DirectReq.readValue (r : DirectReq) : FrameOutcome → Option Byte
  | .done v => if r.value.isNone then some v else none
  | .failed _ => none

/-- Status and detail of a direct request that ends (R85, R87), ABORTED after STOP (R89). -/
def directStatus (stopped : Bool) : FrameOutcome → Status × Option Detail
  | .done _ => if stopped then (.aborted, none) else (.ok, none)
  | .failed .nak => if stopped then (.aborted, none) else (.nak, none)
  | .failed .noResponse =>
    if stopped then (.aborted, none) else (.linkFault, some (.outcome .noResponse))
  | .failed .parity =>
    if stopped then (.aborted, none) else (.linkFault, some (.outcome .parity))

/-- The outcome asks for a retry of a direct request: NO_RESPONSE or PARITY with an attempt remaining,
and STOP has not activated (R85, R87, R89). -/
def Lane.directRetries (L : Lane) (r : DirectReq) (stopped : Bool) : FrameOutcome → Bool
  | .done _ => false
  | .failed .nak => false
  | .failed .noResponse => !stopped && decide (r.retries < L.options.retryLimit)
  | .failed .parity => !stopped && decide (r.retries < L.options.retryLimit)

/-- A DIRECT_READ or DIRECT_WRITE outcome (R85, R87, R88, R89); in PROBING a failed request returns to the
head of the list with no retry due. -/
def Lane.takeDirect (L : Lane) (stopped : Bool) (o : FrameOutcome) : LaneOut :=
  match L.directs with
  | [] => L.out
  | r :: rest =>
    if L.directRetries r stopped o then
      Lane.out { L with directs := { r with retries := r.retries + 1 } :: rest,
                        retryDue := if L.state = .probing then none else some r.tx }
    else
      let im := r.image o L.image
      let sd := directStatus stopped o
      { lane := { L with directs := rest, image := im },
        events := [],
        done := [{ id := r.id, status := sd.1, detail := sd.2,
                   result := some (directResult (r.readValue o) r.retries (im.get r.addr)) }],
        waiters := [] }

/-! ### Frame end (R60, R64, R80) -/

/-- The outcome taken by the rule of its kind (R80). -/
def Lane.takeOutcome (l : Fin 16) (L : Lane) (tx : Tx) (stopped : Bool) (o : FrameOutcome) : LaneOut :=
  match tx with
  | .check => L.takeCheck l o
  | .ack => L.takeAck l o
  | .wb _ _ => L.takeWrite l tx o
  | .verify _ => L.takeWrite l tx o
  | .poll i a => L.takePoll l i a o
  | .directRead _ => L.takeDirect stopped o
  | .directWrite _ _ => L.takeDirect stopped o

/-- What a QUIESCING lane makes of its frame's outcome before it becomes QUIESCED (R60): the happening,
the address of a write ended short, and the failure the quiesce took. A write that ends here raises no
WRITE_REFUSED (R40; notes/assumptions/28.md). -/
def Lane.quiesceOutcome (l : Fin 16) (L : Lane) (tx : Tx) (stopped : Bool) (o : FrameOutcome) :
    LaneOut × Option Nat × Option (TxKind × Failure) :=
  let failure := o.failure.map fun f => (tx.kind, f)
  match tx with
  | .check => (L.out, none, failure)
  | .ack => (Lane.out { L with ackDue := false }, none, failure)
  | .wb a _ | .verify a =>
    match L.writeVerdict l tx o with
    | .verifyDue =>
      (Lane.out { L with image := L.image.modify a (Entry.endWrite none) }, some a, none)
    | .again _ im =>
      (Lane.out { L with image := im.modify a (Entry.endWrite none) }, some a, failure)
    | .ended im _ => (Lane.out { L with image := im }, none, none)
    | .exhausted im => (Lane.out { L with image := im }, none, failure)
  | .poll i _ =>
    (L.pollEffect l i o, none,
      match o with
      | .done _ => none
      | .failed .nak => none
      | .failed .noResponse => failure
      | .failed .parity => failure)
  | .directRead _ | .directWrite _ _ => (L.takeDirect stopped o, none, none)

/-- The frame of a QUIESCING lane ends: the lane becomes QUIESCED and the QUIESCE completes OK (R60). -/
def Lane.quiesceEnd (l : Fin 16) (L : Lane) (tx : Tx) (stopped : Bool) (o : FrameOutcome) : LaneOut :=
  let r := L.quiesceOutcome l tx stopped o
  { r.1 with
    lane := { r.1.lane with state := .quiesced, transition := none, retryCount := 0,
                            stalePoll := false },
    done := r.1.done ++ L.transitionDone .ok none (some (quiesceResult r.2.1 r.2.2)) }

/-- The lane reaches DETACHED (R64): everything is cleared and the DETACH completes OK. -/
def Lane.detachEnd (L : Lane) : LaneOut :=
  { Lane.reset.out with done := L.transitionDone .ok none none }

/-- The lane's part of a frame's end (R80), with the SYNC waiters it completes. -/
def Lane.frameEnd (l : Fin 16) (L : Lane) (tx : Tx) (stopped : Bool) (o : FrameOutcome) : LaneOut :=
  match L.state with
  | .detaching => L.detachEnd
  | .quiescing => L.quiesceEnd l tx stopped o
  | .detached => L.out
  | .probing => (L.takeOutcome l tx stopped o).settleSync
  | .active => (L.takeOutcome l tx stopped o).settleSync
  | .quiesced => (L.takeOutcome l tx stopped o).settleSync
  | .faulted => (L.takeOutcome l tx stopped o).settleSync

/-! ### Ticks (R67, R92, R93, R97) -/

/-- A poll tick (R93): it begins a round, is skipped with the overrun count raised, or is ignored. -/
def Lane.pollTick (L : Lane) (inFlight : Option Tx) : Lane :=
  if L.state = .active then
    let L1 := L.settleRound inFlight
    match L1.round with
    | none => { L1 with round := some .atCheck, checkDue := true }
    | some _ => { L1 with overrunCount := min (L1.overrunCount + 1) Config.countMax }
  else L

/-- The poll timer counts (R92). -/
def Lane.pollTimed (L : Lane) : Bool :=
  decide (L.state ≠ .detached) && decide (L.options.pollPeriod ≠ 0)

/-- One millisecond at the poll timer (R92). -/
def Lane.countPoll (L : Lane) (inFlight : Option Tx) : Lane :=
  if L.pollTimed then
    if L.options.pollPeriod ≤ L.pollTimer + 1 then
      Lane.pollTick { L with pollTimer := 0 } inFlight
    else { L with pollTimer := L.pollTimer + 1 }
  else L

/-- A waiter whose limit expires at this tick (R67). -/
def Waiter.expires (w : Waiter) : Bool :=
  match w.remaining with
  | some n => decide (n ≤ 1)
  | none => false

/-- A waiter after a tick that does not expire it (R67). -/
def Waiter.count (w : Waiter) : Waiter := { w with remaining := w.remaining.map (· - 1) }

/-- One millisecond at the SYNC waiters (R67). -/
def Lane.countWaiters (L : Lane) : LaneOut :=
  { Lane.out { L with waiters := (L.waiters.filter fun w => !w.expires).map Waiter.count } with
    waiters := (L.waiters.filter Waiter.expires).map fun w =>
      { id := w.id, status := .timeout, detail := none, result := some (syncResult L) } }

/-! ### Lane commands at their activation -/

/-- LANE_ATTACH (R49). -/
def Lane.attach (L : Lane) (id : CmdId) (b : Binding) (o : Options) : Lane :=
  { L with state := .probing, binding := some b, options := o, purpose := some .attach,
           transition := some id, checkDue := true, pollTimer := 0 }

/-- LANE_RESUME (R61); a direct request's due retry ceases (R88). -/
def Lane.resume (L : Lane) (id : CmdId) : Lane :=
  { L with state := .probing, purpose := some .resume, transition := some id, checkDue := true,
           ackDue := false, retryDue := none }

/-- What every accepted QUIESCE drops (R59): the round, the due CHECK, a due ACK that is not in flight,
and a due retry other than a direct request's. -/
def Lane.quiesceDrop (L : Lane) (inFlight : Option Tx) : Lane :=
  { L with round := none, checkDue := false,
           ackDue := L.ackDue && decide (inFlight = some .ack),
           verifyDue := false,
           retryDue := L.retryDue.filter Tx.isDirect,
           retryCount := 0,
           stalePoll := L.stalePoll && inFlight.isSome }

/-- An accepted LANE_QUIESCE of an ACTIVE lane (R59). -/
def Lane.quiesce (L : Lane) (id : CmdId) (inFlight : Option Tx) : LaneOut :=
  let L1 := L.quiesceDrop inFlight
  match inFlight with
  | some _ => Lane.out { L1 with state := .quiescing, transition := some id }
  | none =>
    { Lane.out { L1 with state := .quiesced, image := L.image.cutShort } with
      done := [{ id := id, status := .ok, detail := none,
                 result := some (quiesceResult L.image.pendingAddr none) }] }

/-- The lane at the activation of a LANE_DETACH, its outstanding commands aborted (R62, R63): DETACHING
with a frame in flight, DETACHED without. -/
def Lane.detach (L : Lane) (id : CmdId) (inFlight : Option Tx) : Lane :=
  match inFlight with
  | some _ =>
    { L.dropAutomatic with state := .detaching, purpose := none, transition := some id,
                           waiters := [], directs := [] }
  | none => Lane.reset

/-- The effects of LANE_SET's option changes (R65): a changed layer order recomputes every entry, a
changed poll period restarts the timer. -/
def Lane.setOptions (L : Lane) (o : Options) : Lane :=
  { L with options := o,
           image := if o.layerOrder = L.options.layerOrder then L.image
                    else L.image.reorder o.layerOrder,
           pollTimer := if o.pollPeriod = L.options.pollPeriod then L.pollTimer else 0 }

/-- The lane's part of STOP (R68, R89, R170): the transition command and the waiters go, and of the direct
list only a head whose frame is in flight stays. -/
def Lane.stop (L : Lane) (inFlight : Option Tx) : Lane :=
  let busy := (inFlight.map Tx.isDirect).getD false
  { L with transition := none, waiters := [],
           directs := if busy then L.directs.take 1 else [],
           retryDue := L.retryDue.filter fun tx => !tx.isDirect }

end Sys2Proof.Machine
end

