-- ==== Sys2Proof/Machine/Ops.lean ====
section
/-! DEFINITION. The named operations over the whole part: lanes and their frames, interrupt causes, raising
events, finishing commands, the Host Port's transfers, halting, and the Chain Loader's next load.
The part takes no exception; raising a cause or an event is an effect on the state. -/

namespace Sys2Proof.Machine

/-! ### Lanes and frames -/

/-- The sixteen lanes in order. -/
def laneIndices : List (Fin 16) := [0, 1, 2, 3, 4, 5, 6, 7, 8, 9, 10, 11, 12, 13, 14, 15]

/-- The lane a byte names, when it is 0 to 15. -/
def laneOfByte (b : Byte) : Option (Fin 16) :=
  if h : b.toNat < 16 then some ⟨b.toNat, h⟩ else none

/-- The transaction of the lane's frame in flight (R45, R78): its port is BUSY with it. -/
def State.inFlight (s : State) (l : Fin 16) : Option Tx :=
  match s.lanes[l].binding with
  | some b =>
    match s.ports[b.port].frame with
    | some f => if f.lane = l then some f.tx else none
    | none => none
  | none => none

/-- One lane takes a new state. -/
def State.setLane (l : Fin 16) (L : Lane) (s : State) : State := { s with lanes := s.lanes.set l L }

/-- One port takes a new state. -/
def State.setPort (p : Fin 4) (P : Port) (s : State) : State := { s with ports := s.ports.set p P }

/-- One submission ring takes a new state. -/
def State.setRing (q : Fin 4) (r : SubRing) (s : State) : State := { s with rings := s.rings.set q r }

/-- A lane is attached in every state other than DETACHED (R45). -/
def Lane.attached (L : Lane) : Bool := decide (L.state ≠ .detached)

/-- The attached lane bound at a port and select (R79); no two share a binding (R45). -/
def State.laneAt (s : State) (b : Binding) : Option (Fin 16) :=
  laneIndices.find? fun l => s.lanes[l].attached && decide (s.lanes[l].binding = some b)

/-- At least one lane is bound to the port (R81). -/
def State.portBound (s : State) (p : Fin 4) : Bool :=
  laneIndices.any fun l =>
    s.lanes[l].attached && decide ((s.lanes[l].binding.map (·.port)) = some p)

/-! ### The Host Port (R124, R140, R155, R163, R167) -/

/-- A transfer is asked for: it is served after those asked for before it (R140). -/
def State.ask (s : State) (t : Transfer) : State := { s with transfers := s.transfers ++ [t] }

/-- The transfer has been started (R172): fetches, completion and event writes are in flight from their
asking, reads of blocks and of the setup block and report writes from the start that the Host Port makes,
and an interrupt message takes no start before it is sent. -/
def Transfer.started : Transfer → Bool
  | .setupRead _ st => st
  | .fetch _ _ => true
  | .completionWrite _ _ => true
  | .eventWrite _ _ _ => true
  | .blockRead _ st => st
  | .reportWrite _ _ _ st => st
  | .message => false

/-- The transfer is a fetch. -/
def Transfer.isFetch : Transfer → Bool
  | .fetch _ _ => true
  | .setupRead _ _ => false
  | .completionWrite _ _ => false
  | .eventWrite _ _ _ => false
  | .blockRead _ _ => false
  | .reportWrite _ _ _ _ => false
  | .message => false

/-- The transfer is a completion write. -/
def Transfer.isCompletionWrite : Transfer → Bool
  | .completionWrite _ _ => true
  | .setupRead _ _ => false
  | .fetch _ _ => false
  | .eventWrite _ _ _ => false
  | .blockRead _ _ => false
  | .reportWrite _ _ _ _ => false
  | .message => false

/-- The transfer is an event write. -/
def Transfer.isEventWrite : Transfer → Bool
  | .eventWrite _ _ _ => true
  | .setupRead _ _ => false
  | .fetch _ _ => false
  | .completionWrite _ _ => false
  | .blockRead _ _ => false
  | .reportWrite _ _ _ _ => false
  | .message => false

/-- The transfer is a chain block read. -/
def Transfer.isBlockRead : Transfer → Bool
  | .blockRead _ _ => true
  | .setupRead _ _ => false
  | .fetch _ _ => false
  | .completionWrite _ _ => false
  | .eventWrite _ _ _ => false
  | .reportWrite _ _ _ _ => false
  | .message => false

/-- The transfer is the report write of a command. -/
def Transfer.isReportOf (id : CmdId) : Transfer → Bool
  | .reportWrite i _ _ _ => decide (i = id)
  | .setupRead _ _ => false
  | .fetch _ _ => false
  | .completionWrite _ _ => false
  | .eventWrite _ _ _ => false
  | .blockRead _ _ => false
  | .message => false

/-- The transfer is a report write. -/
def Transfer.isReport : Transfer → Bool
  | .reportWrite _ _ _ _ => true
  | .setupRead _ _ => false
  | .fetch _ _ => false
  | .completionWrite _ _ => false
  | .eventWrite _ _ _ => false
  | .blockRead _ _ => false
  | .message => false

/-- The transfer is the setup read. -/
def Transfer.isSetupRead : Transfer → Bool
  | .setupRead _ _ => true
  | .fetch _ _ => false
  | .completionWrite _ _ => false
  | .eventWrite _ _ _ => false
  | .blockRead _ _ => false
  | .reportWrite _ _ _ _ => false
  | .message => false

/-- The transfer is an interrupt message (R163). -/
def Transfer.isMessage : Transfer → Bool
  | .message => true
  | .setupRead _ _ => false
  | .fetch _ _ => false
  | .completionWrite _ _ => false
  | .eventWrite _ _ _ => false
  | .blockRead _ _ => false
  | .reportWrite _ _ _ _ => false

/-- The transfer once the Host Port has started it. -/
def Transfer.start : Transfer → Transfer
  | .setupRead a _ => .setupRead a true
  | .blockRead a _ => .blockRead a true
  | .reportWrite i a r _ => .reportWrite i a r true
  | .fetch q a => .fetch q a
  | .completionWrite a r => .completionWrite a r
  | .eventWrite a r n => .eventWrite a r n
  | .message => .message

/-- The Host Port starts the transfer at the head of its order when it is one of the kind asked about and
not started; otherwise nothing starts (notes/assumptions/5.md). -/
def State.startHead (s : State) (p : Transfer → Bool) : State :=
  match s.transfers with
  | [] => s
  | t :: ts => if p t && !t.started then { s with transfers := t.start :: ts } else s

/-- A fetch is in flight (R140), and holds one reserved entry of the table. -/
def State.fetchInFlight (s : State) : Bool := s.transfers.any Transfer.isFetch

/-- A completion write is in flight (R149). -/
def State.completionWriteInFlight (s : State) : Bool := s.transfers.any Transfer.isCompletionWrite

/-- An event write is in flight (R159). -/
def State.eventWriteInFlight (s : State) : Bool := s.transfers.any Transfer.isEventWrite

/-- The Chain Loader's read is in flight: the Host Port has started it (R124). -/
def State.blockReadInFlight (s : State) : Bool :=
  s.transfers.any fun t => t.isBlockRead && t.started

/-- The Outstanding Command Table has a free entry, the reserved one not counted (R140). -/
def State.tableFree (s : State) : Bool :=
  decide (s.table.length + s.fetchInFlight.toNat < Config.tableSize)

/-- Interrupt messages whose turn has come, with no transfer ahead of them, are sent (R163). -/
def State.sendDue (s : State) : State :=
  { s with
    transfers := s.transfers.dropWhile Transfer.isMessage,
    messages := s.messages + (s.transfers.takeWhile Transfer.isMessage).length }

/-- A read or a report write that has not been started is withdrawn, and messages behind it move up. -/
def State.withdraw (s : State) (p : Transfer → Bool) : State :=
  State.sendDue { s with transfers := s.transfers.filter fun t => t.started || !p t }

/-! ### Interrupts (R162, R163) -/

/-- One interrupt message at a happening at which the interrupt condition goes from not holding, as
`before` says, to holding: it is sent at once when the Host Port serves nothing, and otherwise in its turn
among the transfers (R163, notes/assumptions/6.md). -/
def State.messageOnRise (before : Bool) (s : State) : State :=
  if before = false ∧ interruptCondition s.intState s.intEnable = true then
    (s.ask .message).sendDue
  else s

/-- Causes are set at one happening (R162, R163). -/
def State.setCauses (c : Causes) (s : State) : State :=
  State.messageOnRise (interruptCondition s.intState s.intEnable)
    { s with intState := s.intState.union c }

/-! ### Events (R157 to R160) -/

/-- The lost-event count rises by `n` and stays at 65535 (R160). -/
def State.addLost (n : Nat) (s : State) : State :=
  { s with eq := { s.eq with lost := min (s.eq.lost + n) Config.countMax } }

/-- The event ring has room for a newly raised event (R157). -/
def EventRing.room (q : EventRing) : Bool := decide (q.ring.occupied + q.pending.length < q.ring.size)

/-- An event is raised (R158): dropped when its kind is masked, pending when the part is RUNNING and the
ring has room, otherwise counted as lost. -/
def State.raise (s : State) (e : Event) : State :=
  if s.eq.mask.getLsbD e.code then s
  else if s.device = .running ∧ s.eq.room = true then
    { s with eq := { s.eq with pending := s.eq.pending ++ [e] } }
  else s.addLost 1

/-- Events of one happening are taken one after another (R158). -/
def State.raiseAll (s : State) (es : List Event) : State := es.foldl State.raise s

/-! ### The Outstanding Command Table and the finish list (R143, R146, R148) -/

/-- The entry is FINISHED. -/
def OctEntry.finished (e : OctEntry) : Bool :=
  match e.stage with
  | .finished _ _ _ => true
  | .waiting => false
  | .active => false

/-- The entry of a command. -/
def State.entry (s : State) (id : CmdId) : Option OctEntry := s.table.find? fun e => e.id = id

/-- The entry of `c.id` becomes FINISHED unless it is. -/
def OctEntry.finish (c : Completion) (e : OctEntry) : OctEntry :=
  if e.id = c.id ∧ e.finished = false then
    { e with stage := .finished c.status c.detail c.result }
  else e

/-- A command finishes and joins the finish list (R146, R148); a command finishes once. -/
def State.finish (s : State) (c : Completion) : State :=
  if s.table.any fun e => decide (e.id = c.id) && !e.finished then
    { s with table := s.table.map (OctEntry.finish c), finishList := s.finishList ++ [.entry c.id] }
  else s

/-- Commands finish in the order given. -/
def State.finishAll (s : State) (cs : List Completion) : State := cs.foldl State.finish s

/-- A command is refused at check 5 or 6 (R146, R152): detail and result absent. -/
def State.refuse (s : State) (id : CmdId) (status : Status) : State :=
  s.finish { id := id, status := status, detail := none, result := none }

/-- The place of a command in fetch order. -/
def fetchPlace (table : List OctEntry) (id : CmdId) : Nat := table.findIdx fun e => e.id = id

/-- A completion takes its place by fetch order among others (R146). -/
def insertByFetch (table : List OctEntry) (c : Completion) : List Completion → List Completion
  | [] => [c]
  | d :: ds =>
    if fetchPlace table c.id < fetchPlace table d.id then c :: d :: ds
    else d :: insertByFetch table c ds

/-- The completions of one happening in the order they join the finish list (R146, R67). -/
def completionOrder (table : List OctEntry) (done waiters : List Completion) : List Completion :=
  done.foldl (fun cs c => insertByFetch table c cs) waiters

/-- The elements of `xs` that satisfy `p` replaced, place by place, by those of `ys`. -/
def fillWith {α : Type} (p : α → Bool) : List α → List α → List α
  | [], _ => []
  | x :: xs, [] => x :: xs
  | x :: xs, y :: ys => if p x then y :: fillWith p xs ys else x :: fillWith p xs (y :: ys)

/-- The elements that satisfy `p` take, among the places they hold, the ascending order of a key; every
other element keeps its place. -/
def sortWithin {α : Type} (p : α → Bool) (key : α → Nat) (xs : List α) : List α :=
  fillWith p xs (sortOn key (xs.filter p))

/-- A happening at a lane is taken by the part: the lane changes, its events are raised, its commands
finish. -/
def State.applyOut (l : Fin 16) (o : LaneOut) (s : State) : State :=
  ((s.setLane l o.lane).raiseAll o.events).finishAll (completionOrder s.table o.done o.waiters)

/-- A happening at a lane that may leave it in sync (R46). -/
def State.applySync (l : Fin 16) (o : LaneOut) (s : State) : State := s.applyOut l o.settleSync

/-! ### Rings (R147, R157) -/

/-- The ring after one record has been written: the slot advances, and the phase flips at the wrap. -/
def OutRing.written (r : OutRing) : OutRing :=
  { r with
    writeSlot := if r.writeSlot + 1 < r.size then r.writeSlot + 1 else 0,
    phase := if r.writeSlot + 1 < r.size then r.phase else !r.phase,
    occupied := r.occupied + 1 }

/-- The address of the write slot (Chapter 11: base plus 16 times the slot number). -/
def OutRing.slotAddr (r : OutRing) : HostAddr := r.base + BitVec.ofNat 64 (16 * r.writeSlot)

/-- The address of a submission ring's head slot (Chapter 11: base plus 32 times the slot number). -/
def SubRing.headAddr (r : SubRing) : HostAddr := r.base + BitVec.ofNat 64 (32 * r.head)

/-- The slot after a slot. -/
def SubRing.next (r : SubRing) : Nat := if r.head + 1 < r.size then r.head + 1 else 0

/-- A submission ring becomes ERROR (R138): RING_ERROR is raised and the ERROR cause set. -/
def State.ringError (s : State) (q : Fin 4) (cause : RingErrorCause) : State :=
  ((s.setRing q { s.rings[q] with state := .error }).raise (.ringError q cause)).setCauses
    { Causes.clear with error := true }

/-- BAD_POST is set, and with it the ERROR cause (R139). -/
def State.setBadPost (s : State) : State :=
  State.setCauses { Causes.clear with error := true } { s with badPost := true }

/-- BAD_RETURN is set, and with it the ERROR cause (R151). -/
def State.setBadReturn (s : State) : State :=
  State.setCauses { Causes.clear with error := true } { s with badReturn := true }

/-! ### Halting (R150, R161, R170, R171) -/

/-- Every submission ring becomes OFF and keeps its positions (R137). -/
def State.ringsOff (s : State) : State :=
  { s with rings := Vector.ofFn fun q => { s.rings[q] with state := .off } }

/-- Every pending event is counted as lost and leaves the list (R161, at RESET). -/
def State.dropAllPending (s : State) : State :=
  State.addLost s.eq.pending.length { s with eq := { s.eq with pending := [] } }

/-- Pending events whose write is not in flight are counted as lost and leave the list (R150, R161). -/
def State.dropPending (s : State) : State :=
  let kept := if s.eventWriteInFlight then s.eq.pending.take 1 else []
  State.addLost (s.eq.pending.length - kept.length)
    { s with eq := { s.eq with pending := kept } }

/-- A failed record write halts the part (R171). -/
def State.hostWriteHalt (s : State) : State :=
  State.setCauses { Causes.clear with error := true, state := true }
    { s.dropPending.ringsOff with device := .halted, errorCode := .hostWrite }

/-- STOPPING ends when the table and the finish list are empty (R170). The entry that a fetch in flight
reserves (R140) counts as one of the table until the fetch's end frees it (R141): only then can no more
than an event write be in service at a START (R167, DEDUCED, notes/assumptions/29.md). -/
def State.settleStop (s : State) : State :=
  if s.device = .stopping ∧ s.table.isEmpty = true ∧ s.finishList.isEmpty = true ∧
      s.fetchInFlight = false then
    State.setCauses { Causes.clear with state := true }
      { s.dropPending.ringsOff with device := .halted }
  else s

/-! ### The Chain Loader's next load (R122) -/

/-- The head of the loader queue becomes the active load, and its first block is asked for; with an empty
queue no load is active. The staging area is empty. -/
def State.nextLoad (s : State) : State :=
  match s.loader.queue with
  | [] => { s with loader := { s.loader with active := none, staging := Staging.reset } }
  | q :: qs =>
    State.ask
      { s with loader :=
          { s.loader with
            queue := qs,
            active := some { id := q.id, lane := q.lane, mode := q.mode, stage := .read q.first,
                             position := 1, blocksRead := 0 },
            staging := Staging.reset } }
      (.blockRead q.first false)

/-- The active load ends with no read in flight, and the next is taken (R122). -/
def State.endLoad (s : State) : State :=
  (s.withdraw Transfer.isBlockRead).nextLoad

/-! ### The lane barrier (R144, R145) -/

/-- A barrier kind (Table 8-4). -/
def Cmd.barrier : Cmd → Bool
  | .laneAttach _ _ _ => true
  | .laneDetach => true
  | .laneQuiesce => true
  | .laneResume => true
  | .chainLoad _ _ => true
  | .nop => false
  | .laneSet _ => false
  | .laneSync _ => false
  | .regSet _ _ _ _ => false
  | .readDirect _ => false
  | .writeDirect _ _ => false
  | .watchSet _ => false
  | .flagsClear _ _ => false
  | .calIndex _ => false
  | .calClear => false
  | .laneReport _ => false

/-- A kind that an OBSERVE ring may issue (R142, Table 8-4). -/
def Cmd.observe : Cmd → Bool
  | .nop => true
  | .laneSync _ => true
  | .readDirect _ => true
  | .laneReport _ => true
  | .laneAttach _ _ _ => false
  | .laneDetach => false
  | .laneSet _ => false
  | .laneQuiesce => false
  | .laneResume => false
  | .regSet _ _ _ _ => false
  | .writeDirect _ _ => false
  | .watchSet _ => false
  | .flagsClear _ _ => false
  | .calIndex _ => false
  | .calClear => false
  | .chainLoad _ _ => false

/-- The kind names a lane: every kind but NOP (R143). -/
def Cmd.namesLane (c : Cmd) : Bool := decide (c ≠ .nop)

/-- An earlier entry holds back a command of a ring for a lane (R144): WAITING, or ACTIVE and of a
barrier kind. -/
def OctEntry.holds (e : OctEntry) (ring : Fin 4) (lane : Byte) : Bool :=
  decide (e.id.ring = ring) && e.cmd.namesLane && decide (e.lane = lane) &&
    match e.stage with
    | .waiting => true
    | .active => e.cmd.barrier
    | .finished _ _ _ => false

/-- A command is held back by the entries before it in fetch order (R144); NOP never is. -/
def heldBack (earlier : List OctEntry) (ring : Fin 4) (lane : Byte) (cmd : Cmd) : Bool :=
  cmd.namesLane && earlier.any fun e => e.holds ring lane

/-- The first WAITING entry in fetch order that nothing holds back (R145); `earlier` stands before. -/
def firstReleasable (earlier : List OctEntry) : List OctEntry → Option OctEntry
  | [] => none
  | e :: es =>
    if e.stage = .waiting ∧ heldBack earlier e.id.ring e.lane e.cmd = false then some e
    else firstReleasable (earlier ++ [e]) es

end Sys2Proof.Machine
end

