-- ==== Sys2Proof/Machine/Commands.lean ====
section
/-! DEFINITION. The Command Unit (spec/08_command_rings_and_completions.md): acceptance, the table, the lane
barrier, and each kind's effect at its activation (checks 5 and 6 of Table 8-1, then the effect its
chapter gives). -/

namespace Sys2Proof.Machine

/-- A command completes OK with a result. -/
def okDone (id : CmdId) (result : Option Word) : Completion :=
  { id := id, status := .ok, detail := none, result := result }

/-- A command completes ABORTED. -/
def abortedDone (id : CmdId) (result : Option Word) : Completion :=
  { id := id, status := .aborted, detail := none, result := result }

/-- The lane state that most commands refuse with STATE: DETACHED or DETACHING. -/
def Lane.closed (L : Lane) : Bool := decide (L.state = .detached) || decide (L.state = .detaching)

/-! ### Effects at activation -/

/-- NOP (R153): the number of entries, NOP included. -/
def State.runNop (id : CmdId) (s : State) : State :=
  s.finish (okDone id (some (resultWord s.table.length 0 0 0)))

/-- The port and select a LANE_ATTACH names, when both lie in range and the port is enabled (R48). -/
def State.attachBinding (s : State) (port select : Byte) : Option Binding :=
  if h : port.toNat < 4 ∧ select.toNat < 4 then
    if s.ports[port.toNat].enabled then
      some { port := ⟨port.toNat, h.1⟩, select := ⟨select.toNat, h.2⟩ }
    else none
  else none

/-- LANE_ATTACH (R48, R49). -/
def State.runAttach (id : CmdId) (l : Fin 16) (port select : Byte) (opts : OptionBlock) (s : State) :
    State :=
  match s.attachBinding port select, optionsOver Options.default opts with
  | some b, some o =>
    if s.lanes[l].state ≠ .detached then s.refuse id .state
    else if (s.laneAt b).isSome then s.refuse id .conflict
    else s.setLane l (s.lanes[l].attach id b o)
  | _, _ => s.refuse id .range

/-- The completions that a LANE_DETACH makes of the lane's outstanding commands, in the order of R63. -/
def State.detachAborts (s : State) (l : Fin 16) : List Completion :=
  s.lanes[l].transitionDone .aborted none none ++
  s.lanes[l].waiterCompletions .aborted ++
  s.lanes[l].directs.map (fun r => abortedDone r.id none) ++
  ((s.loader.active.filter fun a => decide (a.lane = l)).map fun a =>
    abortedDone a.id (some (loadFailResult a.blocksRead 0))).toList ++
  (s.loader.queue.filter fun q => decide (q.lane = l)).map fun q =>
    abortedDone q.id (some (loadFailResult 0 0))

/-- The Chain Loader at a LANE_DETACH (R135): the lane's loads leave the queue; an active load of the lane
ends, and its read in flight is let end as a discarded one. -/
def State.detachLoads (l : Fin 16) (s : State) : State :=
  let s1 := { s with loader :=
    { s.loader with queue := s.loader.queue.filter fun q => decide (q.lane ≠ l) } }
  match s.loader.active with
  | some a =>
    if a.lane = l then
      if s.blockReadInFlight then
        { s1 with loader := { s1.loader with active := none, discarded := true,
                                             staging := Staging.reset } }
      else s1.endLoad
    else s1
  | none => s1

/-- LANE_DETACH (R62 to R64). -/
def State.runDetach (id : CmdId) (l : Fin 16) (s : State) : State :=
  let L := s.lanes[l]
  if L.state = .detached then s.finish (okDone id none)
  else if L.state = .detaching then s.refuse id .state
  else
    let tx := s.inFlight l
    let s1 := ((s.finishAll (s.detachAborts l)).detachLoads l).setLane l (L.detach id tx)
    if tx.isNone then s1.finish (okDone id none) else s1

/-- LANE_SET (R65). -/
def State.runLaneSet (id : CmdId) (l : Fin 16) (opts : OptionBlock) (s : State) : State :=
  let L := s.lanes[l]
  match optionsOver L.options opts with
  | none => s.refuse id .range
  | some o =>
    if L.closed then s.refuse id .state
    else
      s.applySync l { (L.setOptions o).out with done := [okDone id (some (optionsResult o))] }

/-- LANE_QUIESCE (R59). -/
def State.runQuiesce (id : CmdId) (l : Fin 16) (s : State) : State :=
  let L := s.lanes[l]
  match L.state with
  | .active => s.applyOut l (L.quiesce id (s.inFlight l))
  | .quiesced => s.finish (okDone id (some (quiesceResult none none)))
  | .detached => s.refuse id .state
  | .probing => s.refuse id .state
  | .quiescing => s.refuse id .state
  | .faulted => s.refuse id .state
  | .detaching => s.refuse id .state

/-- LANE_RESUME (R61). -/
def State.runResume (id : CmdId) (l : Fin 16) (s : State) : State :=
  let L := s.lanes[l]
  match L.state with
  | .quiesced => s.setLane l (L.resume id)
  | .faulted => s.setLane l (L.resume id)
  | .detached => s.refuse id .state
  | .probing => s.refuse id .state
  | .active => s.refuse id .state
  | .quiescing => s.refuse id .state
  | .detaching => s.refuse id .state

/-- LANE_SYNC (R66). -/
def State.runSync (id : CmdId) (l : Fin 16) (limit : BitVec 16) (s : State) : State :=
  let L := s.lanes[l]
  if L.closed then s.refuse id .state
  else if L.inSync then s.finish (okDone id (some (syncResult L)))
  else if L.state = .faulted then
    s.finish { id := id, status := .laneFault, detail := none, result := some (syncResult L) }
  else
    s.setLane l { L with waiters := L.waiters ++
      [{ id := id, remaining := (if limit = 0 then none else some limit.toNat) }] }

/-- The layer change of a REG_SET: layer 0 is BASE, 1 is HOLD (R3, R4, R22). -/
def Entry.regSet (o : LayerOrder) (layer : Byte) (v : Option Byte) (e : Entry) : Entry :=
  if layer = 0 then e.setLayers o v e.hold e.cal else e.setLayers o e.base v e.cal

/-- REG_SET (R21, R22). -/
def State.runRegSet (id : CmdId) (l : Fin 16) (addr layer value : Byte) (present : Bool) (s : State) :
    State :=
  let L := s.lanes[l]
  if addr.toNat = 0 ∨ 63 < addr.toNat ∨ 1 < layer.toNat then s.refuse id .range
  else if L.closed then s.refuse id .state
  else
    let v := if present then some value else none
    let im := L.image.modify addr.toNat (Entry.regSet L.options.layerOrder layer v)
    let L' := { L with image := im }
    s.applySync l
      { L'.out with done := [okDone id (some (regSetResult (L'.image.get addr.toNat)))] }

/-- A direct request joins the tail of the lane's direct list (R83). -/
def Lane.addDirect (L : Lane) (id : CmdId) (addr : Nat) (value : Option Byte) : Lane :=
  { L with directs := L.directs ++ [{ id := id, addr := addr, value := value, retries := 0 }] }

/-- READ_DIRECT (R84). -/
def State.runReadDirect (id : CmdId) (l : Fin 16) (addr : Byte) (s : State) : State :=
  let L := s.lanes[l]
  if 63 < addr.toNat then s.refuse id .range
  else if L.closed = true ∨ L.state = .quiescing then s.refuse id .state
  else s.setLane l (L.addDirect id addr.toNat none)

/-- WRITE_DIRECT (R86). -/
def State.runWriteDirect (id : CmdId) (l : Fin 16) (addr value : Byte) (s : State) : State :=
  let L := s.lanes[l]
  if addr.toNat = 0 ∨ 63 < addr.toNat then s.refuse id .range
  else if L.state = .quiesced ∨ L.state = .faulted then
    s.setLane l (L.addDirect id addr.toNat (some value))
  else s.refuse id .state

/-- Another watch of the lane is a temperature source (R102). -/
def otherSource (ws : Vector Watch 8) (i : Fin 8) : Bool :=
  watchIndices.any fun j => decide (j ≠ i) && ws[j].tempSource

/-- WATCH_SET (R102, R103). -/
def State.runWatchSet (id : CmdId) (l : Fin 16) (record : WatchRecord) (s : State) : State :=
  let L := s.lanes[l]
  match readWatch record with
  | none => s.refuse id .range
  | some (i, w) =>
    if L.closed then s.refuse id .state
    else if w.tempSource = true ∧ otherSource L.watches i = true then s.refuse id .conflict
    else
      s.applyOut l
        { (L.replaceWatch (s.inFlight l) i w).out with
          done := [okDone id (some (watchSetResult w))] }

/-- The watches after a FLAGS_CLEAR (R105): bit n of the watch mask names watch n. -/
def clearFlags (ws : Vector Watch 8) (watchMask flagMask : Byte) : Vector Watch 8 :=
  Vector.ofFn fun i =>
    if watchMask.getLsbD i.val then { ws[i] with flags := ws[i].flags.clearMask flagMask }
    else ws[i]

/-- FLAGS_CLEAR (R105). -/
def State.runFlagsClear (id : CmdId) (l : Fin 16) (watchMask flagMask : Byte) (s : State) : State :=
  let L := s.lanes[l]
  if L.closed then s.refuse id .state
  else
    let ws := clearFlags L.watches watchMask flagMask
    s.applyOut l
      { Lane.out { L with watches := ws } with done := [okDone id (some (flagsResult ws))] }

/-- The index a CAL_INDEX names: 0 to 31, or 0xFF for absent; `none` when out of range (R117, R173). -/
def indexOperand (b : Byte) : Option (Option (Fin 32)) :=
  if b = 0xFF#8 then some none
  else if h : b.toNat < 32 then some (some ⟨b.toNat, h⟩)
  else none

/-- CAL_INDEX (R117, R118). -/
def State.runCalIndex (id : CmdId) (l : Fin 16) (index : Byte) (s : State) : State :=
  let L := s.lanes[l]
  match indexOperand index with
  | none => s.refuse id .range
  | some i =>
    if L.closed = true ∨ L.options.indexMode = .auto then s.refuse id .state
    else
      let n := if L.index = i then 0 else L.image.recallCount L.table i
      s.applySync l
        { L.setIndex l i .command none with
          done := [okDone id (some (resultWord (indexCode L.index) (indexCode i) n 0))] }

/-- CAL_CLEAR (R119). -/
def State.runCalClear (id : CmdId) (l : Fin 16) (s : State) : State :=
  let L := s.lanes[l]
  if L.closed then s.refuse id .state
  else if L.table.isEmpty then s.finish (okDone id (some (resultWord 0 0 0 0)))
  else
    s.applySync l
      { Lane.out { L with table := [], image := L.image.recall L.options.layerOrder [] L.index } with
        done := [okDone id (some (resultWord L.table.length
          (L.image.recallCount [] L.index) 0 0))] }

/-- The mode field: 0 REPLACE, 1 MERGE (Table 11-4). -/
def loadMode (b : Byte) : Option LoadMode :=
  if b = 0#8 then some .replace else if b = 1#8 then some .merge else none

/-- CHAIN_LOAD (R122, R123). -/
def State.runChainLoad (id : CmdId) (l : Fin 16) (mode : Byte) (first : HostAddr) (s : State) : State :=
  match loadMode mode with
  | none => s.refuse id .range
  | some m =>
    if aligned64 first = false then s.refuse id .range
    else if s.lanes[l].closed then s.refuse id .state
    else if Config.loaderQueueSize ≤ s.loader.queue.length then s.refuse id .busy
    else
      let load : Load := { id := id, lane := l, mode := m, first := first }
      let s1 := { s with loader := { s.loader with queue := s.loader.queue ++ [load] } }
      if s.loader.active.isNone = true ∧ s.loader.discarded = false ∧
          s.loader.queue.isEmpty = true then
        s1.nextLoad
      else s1

/-- The report of a lane as it stands (R154). -/
def State.report (s : State) (l : Fin 16) : List Byte :=
  reportBytes s.lanes[l] (s.lanes[l].binding.map fun b => s.ports[b.port])

/-- LANE_REPORT (R154, R155). -/
def State.runLaneReport (id : CmdId) (l : Fin 16) (buffer : HostAddr) (s : State) : State :=
  if aligned64 buffer = false then s.refuse id .range
  else s.ask (.reportWrite id buffer (s.report l) false)

/-- A command's effect at its activation (R146). -/
def State.runCmd (id : CmdId) (lane : Byte) (cmd : Cmd) (s : State) : State :=
  match laneOfByte lane with
  | none => if cmd = .nop then s.runNop id else s.refuse id .range
  | some l =>
    match cmd with
    | .nop => s.runNop id
    | .laneAttach port select opts => s.runAttach id l port select opts
    | .laneDetach => s.runDetach id l
    | .laneSet opts => s.runLaneSet id l opts
    | .laneQuiesce => s.runQuiesce id l
    | .laneResume => s.runResume id l
    | .laneSync limit => s.runSync id l limit
    | .regSet addr layer value present => s.runRegSet id l addr layer value present
    | .readDirect addr => s.runReadDirect id l addr
    | .writeDirect addr value => s.runWriteDirect id l addr value
    | .watchSet record => s.runWatchSet id l record
    | .flagsClear watchMask flagMask => s.runFlagsClear id l watchMask flagMask
    | .calIndex index => s.runCalIndex id l index
    | .calClear => s.runCalClear id l
    | .chainLoad mode first => s.runChainLoad id l mode first
    | .laneReport buffer => s.runLaneReport id l buffer

/-! ### Release (R145) -/

/-- A WAITING entry's stage becomes ACTIVE (R146). -/
def State.setActive (id : CmdId) (s : State) : State :=
  { s with table := s.table.map fun e => if e.id = id then { e with stage := .active } else e }

/-- WAITING entries that nothing holds back activate one after another in fetch order, each against the
part as the one before left it (R145). Each activation takes one entry out of WAITING, so `n` is at
most the number of entries. -/
def State.releaseN : Nat → State → State
  | 0, s => s
  | n + 1, s =>
    match firstReleasable [] s.table with
    | none => s
    | some e => releaseN n ((s.setActive e.id).runCmd e.id e.lane e.cmd)

/-- The release of a happening that may have finished a barrier entry (R145). -/
def State.release (s : State) : State := s.releaseN s.table.length

/-! ### Acceptance (R142 to R144) -/

/-- A refusal at checks 1 to 3 joins the finish list and takes no entry (R142). -/
def State.refuseRecord (id : CmdId) (lane : Option Byte) (status : Status) (s : State) : State :=
  { s with finishList := s.finishList ++ [.refusal id lane status] }

/-- The lane byte of a refusal: absent for NOP (Table 11-5). -/
def refusalLane (r : Request) : Option Byte := if r.cmd.namesLane then some r.lane else none

/-- The command's entry with a stage. -/
def Request.entry (r : Request) (stage : Stage) : OctEntry :=
  { id := r.id, lane := r.lane, cmd := r.cmd, stage := stage, stopped := false }

/-- The entry joins the table. -/
def State.addEntry (e : OctEntry) (s : State) : State := { s with table := s.table ++ [e] }

/-- Check 4 and the lane barrier (R143, R144): FINISHED with RANGE, WAITING, or activated. -/
def State.enter (r : Request) (s : State) : State :=
  if r.cmd.namesLane = true ∧ 15 < r.lane.toNat then
    { s.addEntry (r.entry (.finished .range none none)) with
      finishList := s.finishList ++ [.entry r.id] }
  else if heldBack s.table r.id.ring r.lane r.cmd then s.addEntry (r.entry .waiting)
  else (s.addEntry (r.entry .active)).runCmd r.id r.lane r.cmd

/-- The ring's rights permit the kind (R142). -/
def permits (rights : Rights) (c : Cmd) : Bool :=
  match rights with
  | .full => true
  | .observe => c.observe

/-- Checks 2 and 3 on a record whose kind is known, then the table (R142, R143). The release that a
LANE_DETACH's aborts may cause follows (R145). -/
def State.accept (r : Request) (s : State) : State :=
  if permits s.rings[r.id.ring].rights r.cmd = false then
    s.refuseRecord r.id (refusalLane r) .rights
  else if s.table.any fun e => decide (e.id = r.id) then
    s.refuseRecord r.id (refusalLane r) .dupTag
  else if r.cmd = .laneDetach then (s.enter r).release
  else s.enter r

/-- A refusal made at checks 1 to 3 waits on the finish list. -/
def FinishItem.isRefusal : FinishItem → Bool
  | .refusal _ _ _ => true
  | .entry _ => false

/-- A record of ring `q` can be taken as a command now (R140, R141, R148): the part is RUNNING, the ring is
ACTIVE, no fetch is in flight, the table has a free entry and no refusal waits on the finish list
(notes/assumptions/1.md). -/
def State.intakeOpen (s : State) (q : Fin 4) : Bool :=
  decide (s.device = .running) && decide (s.rings[q].state = .active) && !s.fetchInFlight &&
    s.tableFree && !s.finishList.any FinishItem.isRefusal

/-- A command record given to the part as the end of its fetch (notes/assumptions/1.md). -/
def State.takeRecord (r : Request) (s : State) : State :=
  if s.intakeOpen r.id.ring then s.accept r else s

/-- The bytes a fetch brought, taken as a command of ring `q` (R141, R142): check 1, then the others. -/
def State.acceptBytes (q : Fin 4) (bs : List Byte) (s : State) : State :=
  match readCmd bs with
  | none => s.refuseRecord { ring := q, tag := readTag bs } none .unknownKind
  | some c => s.accept { id := { ring := q, tag := readTag bs }, lane := readLane bs, cmd := c }

end Sys2Proof.Machine
end

