-- ==== Sys2Proof/Machine/CommandRows.lean ====
section
/-! DEFINITION. The meanings of the sixteen command records (Table 8-4): each is the record given to the
Command Unit as the end of its fetch, with all checks, the barrier and its effect
(notes/assumptions/1.md). -/

namespace Sys2Proof.Machine

/-- NOP (R153). -/
def execNop (ring : Fin 4) (tag : Tag) (s : State) : Answer :=
  .next (s.takeRecord { id := { ring := ring, tag := tag }, lane := 0, cmd := .nop })

/-- LANE_ATTACH (R48, R49). -/
def execLaneAttach (ring : Fin 4) (tag : Tag) (lane port select : Byte) (opts : OptionBlock)
    (s : State) : Answer :=
  .next (s.takeRecord { id := { ring := ring, tag := tag }, lane := lane,
                        cmd := .laneAttach port select opts })

/-- LANE_DETACH (R62 to R64). -/
def execLaneDetach (ring : Fin 4) (tag : Tag) (lane : Byte) (s : State) : Answer :=
  .next (s.takeRecord { id := { ring := ring, tag := tag }, lane := lane, cmd := .laneDetach })

/-- LANE_SET (R65). -/
def execLaneSet (ring : Fin 4) (tag : Tag) (lane : Byte) (opts : OptionBlock) (s : State) : Answer :=
  .next (s.takeRecord { id := { ring := ring, tag := tag }, lane := lane, cmd := .laneSet opts })

/-- LANE_QUIESCE (R59). -/
def execLaneQuiesce (ring : Fin 4) (tag : Tag) (lane : Byte) (s : State) : Answer :=
  .next (s.takeRecord { id := { ring := ring, tag := tag }, lane := lane, cmd := .laneQuiesce })

/-- LANE_RESUME (R61). -/
def execLaneResume (ring : Fin 4) (tag : Tag) (lane : Byte) (s : State) : Answer :=
  .next (s.takeRecord { id := { ring := ring, tag := tag }, lane := lane, cmd := .laneResume })

/-- LANE_SYNC (R66). -/
def execLaneSync (ring : Fin 4) (tag : Tag) (lane : Byte) (limit : BitVec 16) (s : State) : Answer :=
  .next (s.takeRecord { id := { ring := ring, tag := tag }, lane := lane, cmd := .laneSync limit })

/-- REG_SET (R21, R22). -/
def execRegSet (ring : Fin 4) (tag : Tag) (lane addr layer value : Byte) (present : Bool)
    (s : State) : Answer :=
  .next (s.takeRecord { id := { ring := ring, tag := tag }, lane := lane,
                        cmd := .regSet addr layer value present })

/-- READ_DIRECT (R84). -/
def execReadDirect (ring : Fin 4) (tag : Tag) (lane addr : Byte) (s : State) : Answer :=
  .next (s.takeRecord { id := { ring := ring, tag := tag }, lane := lane, cmd := .readDirect addr })

/-- WRITE_DIRECT (R86). -/
def execWriteDirect (ring : Fin 4) (tag : Tag) (lane addr value : Byte) (s : State) : Answer :=
  .next (s.takeRecord { id := { ring := ring, tag := tag }, lane := lane,
                        cmd := .writeDirect addr value })

/-- WATCH_SET (R102, R103). -/
def execWatchSet (ring : Fin 4) (tag : Tag) (lane : Byte) (record : WatchRecord) (s : State) :
    Answer :=
  .next (s.takeRecord { id := { ring := ring, tag := tag }, lane := lane, cmd := .watchSet record })

/-- FLAGS_CLEAR (R105). -/
def execFlagsClear (ring : Fin 4) (tag : Tag) (lane watchMask flagMask : Byte) (s : State) : Answer :=
  .next (s.takeRecord { id := { ring := ring, tag := tag }, lane := lane,
                        cmd := .flagsClear watchMask flagMask })

/-- CAL_INDEX (R117, R118). -/
def execCalIndex (ring : Fin 4) (tag : Tag) (lane index : Byte) (s : State) : Answer :=
  .next (s.takeRecord { id := { ring := ring, tag := tag }, lane := lane, cmd := .calIndex index })

/-- CAL_CLEAR (R119). -/
def execCalClear (ring : Fin 4) (tag : Tag) (lane : Byte) (s : State) : Answer :=
  .next (s.takeRecord { id := { ring := ring, tag := tag }, lane := lane, cmd := .calClear })

/-- CHAIN_LOAD (R123). -/
def execChainLoad (ring : Fin 4) (tag : Tag) (lane mode : Byte) (first : HostAddr) (s : State) :
    Answer :=
  .next (s.takeRecord { id := { ring := ring, tag := tag }, lane := lane,
                        cmd := .chainLoad mode first })

/-- LANE_REPORT (R154). -/
def execLaneReport (ring : Fin 4) (tag : Tag) (lane : Byte) (buffer : HostAddr) (s : State) : Answer :=
  .next (s.takeRecord { id := { ring := ring, tag := tag }, lane := lane, cmd := .laneReport buffer })

end Sys2Proof.Machine
end

