-- ==== Sys2Proof/Machine/Device.lean ====
section
/-! DEFINITION. The device and its register window (spec/10_register_window_and_start_up.md; POST and
RETURN of spec/08): START, STOP, RESET, the resets, and the register writes. -/

namespace Sys2Proof.Machine

/-! ### START, STOP, RESET -/

/-- START (R166, R167): taken in HALTED unless the error code is HOST_WRITE. -/
def State.controlStart (s : State) : State :=
  if s.device = .halted ∧ s.errorCode ≠ .hostWrite then
    State.ask { s with device := .starting, errorCode := .none } (.setupRead s.setupBase false)
  else s

/-- The frame in flight is that of the head of the lane's direct list, the command `id` (R83). -/
def State.directFrameOf (s : State) (l : Fin 16) (id : CmdId) : Bool :=
  ((s.inFlight l).map Tx.isDirect).getD false &&
    decide ((s.lanes[l].directs.head?.map (·.id)) = some id)

/-- An entry that STOP cannot end at its activation (R156): a direct request with its frame in flight, the
active load with its read in flight, a LANE_REPORT with its write in flight. -/
def State.awaitsEnd (s : State) (e : OctEntry) : Bool :=
  decide (e.stage = .active) &&
    match e.cmd with
    | .readDirect _ | .writeDirect _ _ =>
      match laneOfByte e.lane with
      | some l => s.directFrameOf l e.id
      | none => false
    | .chainLoad _ _ =>
      decide ((s.loader.active.map (·.id)) = some e.id) && s.blockReadInFlight
    | .laneReport _ => s.transfers.any fun t => t.isReportOf e.id && t.started
    | .nop | .laneAttach _ _ _ | .laneDetach | .laneSet _ | .laneQuiesce | .laneResume
    | .laneSync _ | .regSet _ _ _ _ | .watchSet _ | .flagsClear _ _ | .calIndex _ | .calClear =>
      false

/-- The result of a command that STOP aborts (Table 11-6): a load's blocks read, a LANE_SYNC's lane state
and queue length, otherwise absent. -/
def State.stopResult (s : State) (e : OctEntry) : Option Word :=
  match e.cmd with
  | .chainLoad _ _ =>
    match s.loader.active with
    | some a => some (loadFailResult (if a.id = e.id then a.blocksRead else 0) 0)
    | none => some (loadFailResult 0 0)
  | .laneSync _ => (laneOfByte e.lane).map fun l => syncResult s.lanes[l]
  | .nop | .laneAttach _ _ _ | .laneDetach | .laneSet _ | .laneQuiesce | .laneResume
  | .regSet _ _ _ _ | .readDirect _ | .writeDirect _ _ | .watchSet _ | .flagsClear _ _
  | .calIndex _ | .calClear | .laneReport _ => none

/-- The entry is that of a SYNC waiter of lane `l`. -/
def State.waitsAt (s : State) (l : Fin 16) (e : OctEntry) : Bool :=
  decide (laneOfByte e.lane = some l) && s.lanes[l].waiters.any fun w => decide (w.id = e.id)

/-- The entry's place in lane `l`'s waiter list. -/
def State.waiterPlace (s : State) (l : Fin 16) (e : OctEntry) : Nat :=
  s.lanes[l].waiters.findIdx fun w => decide (w.id = e.id)

/-- The entries of lane `l`'s SYNC waiters take, among the places they hold, the order of its waiter list
(R67); every other entry keeps its place. -/
def State.orderWaiters (s : State) (es : List OctEntry) (l : Fin 16) : List OctEntry :=
  sortWithin (s.waitsAt l) (s.waiterPlace l) es

/-- The entries that STOP aborts at its activation, in the order in which they join the finish list: fetch
order (R156), in which the SYNC waiters of one lane keep the order of its waiter list among themselves (R67,
R146; DEDUCED, notes/assumptions/9.md). -/
def State.stopEnds (s : State) : List OctEntry :=
  laneIndices.foldl s.orderWaiters (s.table.filter fun e => !e.finished && !s.awaitsEnd e)

/-- The completions of the commands that STOP aborts at its activation (R156). -/
def State.stopAborts (s : State) : List Completion :=
  s.stopEnds.map fun e =>
    { id := e.id, status := .aborted, detail := none, result := s.stopResult e }

/-- The entries that wait for the end of their own frame or transfer are marked (R156). -/
def State.markStopped (s : State) : State :=
  { s with table := s.table.map fun e => if s.awaitsEnd e then { e with stopped := true } else e }

/-- STOP at the lanes (R68, R89). -/
def State.stopLanes (s : State) : State :=
  { s with lanes := Vector.ofFn fun l => s.lanes[l].stop (s.inFlight l) }

/-- STOP at the Chain Loader (R136): the queue is emptied, and the active load ends unless its read is in
flight. -/
def State.stopLoads (s : State) : State :=
  let s1 := { s with loader := { s.loader with queue := [] } }
  match s.loader.active with
  | some _ => if s.blockReadInFlight then s1 else s1.endLoad
  | none => s1

/-- STOP (R156, R166, R170), taken in RUNNING. -/
def State.controlStop (s : State) : State :=
  if s.device = .running then
    let s1 := (s.markStopped.finishAll s.stopAborts).stopLanes.stopLoads.withdraw Transfer.isReport
    State.settleStop { s1 with device := .stopping }
  else s

/-- RESET and a reset of the host bus (R82, R161, R163, R166, R172): transfers not started and messages not
sent are dropped, the pending event list is emptied into the lost-event count, which goes with the ring's
state at the end of RESETTING, and a port with no frame in flight takes its reset state at once. -/
def State.controlReset (s : State) : State :=
  if s.device = .resetting then s
  else
    { s.dropAllPending with
      device := .resetting,
      errorCode := .none,
      transfers := s.transfers.filter Transfer.started,
      ports := Vector.ofFn fun p => if s.ports[p].frame.isNone then Port.reset else s.ports[p] }

/-- Every block takes its reset state (R172); the commands that wait stay. -/
def State.cleared (s : State) : State := { State.reset with pending := s.pending }

/-- RESETTING ends when every port and the Host Port have ended what they had in flight (R172). -/
def State.endReset (s : State) : State :=
  if s.device = .resetting ∧ four.all (fun p => s.ports[p].frame.isNone) = true ∧
      s.transfers.isEmpty = true then
    s.cleared
  else s

/-! ### Register writes -/

/-- A CONTROL write (R166): RESET wins, START with STOP is ignored. -/
def State.controlWrite (v : Word) (s : State) : State :=
  if v.getLsbD 2 then s.controlReset
  else
    match v.getLsbD 0, v.getLsbD 1 with
    | true, false => s.controlStart
    | false, true => s.controlStop
    | true, true => s
    | false, false => s

/-- A POST (R139). -/
def State.postWrite (q : Fin 4) (tail : BitVec 16) (s : State) : State :=
  match s.device with
  | .running =>
    if s.rings[q].state = .active then
      if tail.toNat < s.rings[q].size then s.setRing q { s.rings[q] with tail := tail.toNat }
      else s.ringError q .postRange
    else s.setBadPost
  | .starting => s.setBadPost
  | .stopping => s.setBadPost
  | .halted => s.setBadPost
  | .resetting => s

/-- The slots a RETURN gives back (R151). -/
def OutRing.returned (r : OutRing) (newHead : Nat) : Nat :=
  if newHead = r.head then (if r.occupied = r.size then r.size else 0)
  else if r.head < newHead then newHead - r.head
  else newHead + r.size - r.head

/-- The ring after a RETURN, or none when the RETURN is ignored (R151). -/
def OutRing.giveBack (r : OutRing) (newHead : Nat) : Option OutRing :=
  if r.size ≤ newHead ∨ r.occupied < r.returned newHead then none
  else some { r with head := newHead, occupied := r.occupied - r.returned newHead }

/-- A RETURN of one ring in RUNNING or STOPPING (R151). -/
def State.returnTaken (q : ReturnRing) (newHead : Nat) (s : State) : State :=
  match q with
  | .cq =>
    match s.cq.giveBack newHead with
    | some r => { s with cq := r }
    | none => s.setBadReturn
  | .eq =>
    match s.eq.ring.giveBack newHead with
    | some r => { s with eq := { s.eq with ring := r } }
    | none => s.setBadReturn

/-- A RETURN (R151). -/
def State.returnWrite (q : ReturnRing) (newHead : BitVec 16) (s : State) : State :=
  match s.device with
  | .running => s.returnTaken q newHead.toNat
  | .stopping => s.returnTaken q newHead.toNat
  | .halted => s.setBadReturn
  | .starting => s.setBadReturn
  | .resetting => s

/-- A STATUS write (R162, R165): ones clear. -/
def State.statusCleared (v : Word) (s : State) : State :=
  if s.device = .resetting then s
  else
    { s with badPost := s.badPost && !v.getLsbD 5, badReturn := s.badReturn && !v.getLsbD 6,
             intState := s.intState.minus (Causes.ofBits v 16) }

/-- An INT_ENABLE write (R163). -/
def State.enableWritten (v : Word) (s : State) : State :=
  if s.device = .resetting then s
  else
    State.messageOnRise (interruptCondition s.intState s.intEnable)
      { s with intEnable := Causes.ofBits v 0 }

/-- A write of the low word of SETUP_BASE; the six lowest bits read as zero (R164). -/
def State.setupLowWritten (v : Word) (s : State) : State :=
  if s.device = .resetting then s
  else { s with setupBase := s.setupBase.extractLsb' 32 32 ++ (v &&& 0xFFFFFFC0#32) }

/-- A write of the high word of SETUP_BASE (R164). -/
def State.setupHighWritten (v : Word) (s : State) : State :=
  if s.device = .resetting then s
  else { s with setupBase := v ++ s.setupBase.extractLsb' 0 32 }

/-- The ring number of a POST word (Table 11-1, bits 0 and 1). -/
def postRing (v : Word) : Fin 4 := ⟨(v.extractLsb' 0 2).toNat, (v.extractLsb' 0 2).isLt⟩

/-- The ring of a RETURN word (Table 11-1, bit 0). -/
def returnRingOf (v : Word) : ReturnRing := if v.getLsbD 0 then .eq else .cq

/-- A raw write of any register of the window (R164, Table 10-1, Table 11-1). -/
def State.windowWrite (reg : WindowReg) (v : Word) (s : State) : State :=
  match reg with
  | .ident => s
  | .control => s.controlWrite v
  | .status => s.statusCleared v
  | .intEnable => s.enableWritten v
  | .setupLow => s.setupLowWritten v
  | .setupHigh => s.setupHighWritten v
  | .post => s.postWrite (postRing v) (v.extractLsb' 16 16)
  | .ringReturn => s.returnWrite (returnRingOf v) (v.extractLsb' 16 16)

/-! ### Meanings -/

/-- START: a CONTROL write with the START bit alone (R166, R167). -/
def execStart (s : State) : Answer := .next s.controlStart

/-- STOP: a CONTROL write with the STOP bit alone (R166, R170). -/
def execStop (s : State) : Answer := .next s.controlStop

/-- RESET: a CONTROL write with the RESET bit (R166, R172). -/
def execReset (s : State) : Answer := .next s.controlReset

/-- HOST_BUS_RESET (R172): taken as RESET, absorbed in RESETTING. -/
def execHostBusReset (s : State) : Answer := .next s.controlReset

/-- POWER_ON (R172). -/
def execPowerOn (s : State) : Answer := .next s.cleared

/-- RESET_END (R172). -/
def execResetEnd (s : State) : Answer := .next s.endReset

/-- POST (R139). -/
def execPost (ring : Fin 4) (tail : BitVec 16) (s : State) : Answer := .next (s.postWrite ring tail)

/-- RETURN (R151). -/
def execRingReturn (ring : ReturnRing) (head : BitVec 16) (s : State) : Answer :=
  .next (s.returnWrite ring head)

/-- STATUS_WRITE (R165). -/
def execStatusWrite (value : Word) (s : State) : Answer := .next (s.statusCleared value)

/-- INT_ENABLE_WRITE (R163). -/
def execIntEnableWrite (value : Word) (s : State) : Answer := .next (s.enableWritten value)

/-- REGISTER_WRITE (R164). -/
def execRegisterWrite (reg : WindowReg) (value : Word) (s : State) : Answer :=
  .next (s.windowWrite reg value)

end Sys2Proof.Machine
end

