-- ==== Sys2Proof/Machine/Chain.lean ====
section
/-! DEFINITION. Configuration chains (spec/07_configuration_chains.md): the checks on a block, staging,
and the commit at the lane. -/

namespace Sys2Proof.Machine

/-! ### Block checks (R125, R126) -/

/-- The kind of a block (Table 11-9). -/
inductive BlockKind where
  | base | cal | watch
  deriving DecidableEq, Repr

/-- The kind field, or none when it names no kind. -/
def blockKind (bs : List Byte) : Option BlockKind :=
  if byteAt bs 0 = 1#8 then some .base
  else if byteAt bs 0 = 2#8 then some .cal
  else if byteAt bs 0 = 3#8 then some .watch
  else none

/-- The entry count field. -/
def blockCount (bs : List Byte) : Nat := (byteAt bs 1).toNat

/-- The most entries a block of a kind holds (Table 7-1). -/
def maxEntries : BlockKind → Nat
  | .base => 60
  | .cal => 4
  | .watch => 8

/-- The bytes of one entry (Table 11-9). -/
def entrySize : BlockKind → Nat
  | .base => 4
  | .cal => 36
  | .watch => 12

/-- The first bytes of the counted entries, in body order. -/
def entryStarts (k : BlockKind) (bs : List Byte) : List Nat :=
  (List.range (blockCount bs)).map fun i => 16 + entrySize k * i

/-- The address and action of the BASE entry at byte `n`, or none when it fails (R126). -/
def baseEntryAt (bs : List Byte) (n : Nat) : Option (Fin 63 × BaseAction) :=
  let a := (byteAt bs n).toNat
  if h : 1 ≤ a ∧ a ≤ 63 then
    if byteAt bs (n + 2) = 0#8 then some (⟨a - 1, by omega⟩, .set (byteAt bs (n + 1)))
    else if byteAt bs (n + 2) = 1#8 then some (⟨a - 1, by omega⟩, .clear)
    else none
  else none

/-- The target addresses of a block's columns. -/
def columnTargets (bs : List Byte) : List Nat :=
  (entryStarts .cal bs).map fun n => (byteAt bs n).toNat

/-- CAL columns pass: each target is 1 to 63, and none is a target already staged or met earlier in the
block (R126). -/
def columnsOk (staged : List Nat) : List Nat → Bool
  | [] => true
  | t :: ts => decide (1 ≤ t ∧ t ≤ 63) && !staged.contains t && columnsOk (t :: staged) ts

/-- Every counted entry of a block passes the checks of its kind (R126). -/
def entriesOk (k : BlockKind) (st : Staging) (bs : List Byte) : Bool :=
  match k with
  | .base => (entryStarts .base bs).all fun n => (baseEntryAt bs n).isSome
  | .cal => columnsOk (st.columns.map (·.column.target)) (columnTargets bs)
  | .watch => (entryStarts .watch bs).all fun n => (readWatch (watchRecordAt bs n)).isSome

/-! ### Staging (R127) -/

/-- One BASE entry staged over those before it. -/
def stageBase (bs : List Byte) (st : Staging) (n : Nat) : Staging :=
  match baseEntryAt bs n with
  | some (i, act) => { st with base := st.base.set i (some act) }
  | none => st

/-- One WATCH record staged over those before it. -/
def stageWatch (position : Nat) (bs : List Byte) (st : Staging) (n : Nat) : Staging :=
  match readWatch (watchRecordAt bs n) with
  | some (i, w) =>
    { st with watches := st.watches.set i (some { watch := w, block := position }) }
  | none => st

/-- The columns of a block joined to those staged before. -/
def stageColumns (position : Nat) (bs : List Byte) (st : Staging) : Staging :=
  { st with columns := st.columns ++
      (entryStarts .cal bs).map fun n => { column := columnAt bs n, block := position } }

/-- A block's content staged, in body order (R127). -/
def stageBlock (k : BlockKind) (position : Nat) (bs : List Byte) (st : Staging) : Staging :=
  match k with
  | .base => (entryStarts .base bs).foldl (stageBase bs) st
  | .cal => stageColumns position bs st
  | .watch => (entryStarts .watch bs).foldl (stageWatch position bs) st

/-- The checks of a block in their order, and its content staged when it passes (R125, R127). -/
def checkBlock (position : Nat) (bs : List Byte) (st : Staging) : Except ChainErr Staging :=
  if blockSum bs ≠ 0 then .error .checksum
  else
    match blockKind bs with
    | none => .error .badBlock
    | some k =>
      if blockCount bs = 0 ∨ maxEntries k < blockCount bs then .error .badBlock
      else if aligned64 (blockNext bs) = false then .error .badBlock
      else if entriesOk k st bs = false then .error .badEntry
      else
        let st' := stageBlock k position bs st
        if Config.tableColumns < st'.columns.length then .error .tableFull else .ok st'

/-! ### Commit (R129 to R132) -/

/-- The staging area holds a BASE action. -/
def Staging.hasBase (st : Staging) : Bool := st.base.toList.any Option.isSome

/-- The staging area holds a WATCH record. -/
def Staging.hasWatch (st : Staging) : Bool := st.watches.toList.any Option.isSome

/-- The staged action of chip address `a`. -/
def Staging.actionAt (st : Staging) (a : Nat) : Option BaseAction :=
  if h : 1 ≤ a ∧ a ≤ 63 then st.base[a - 1]'(by omega) else none

/-- A column joins a table in place of the column of its target, or at the end (R131). -/
def mergeColumn (table : List Column) (c : Column) : List Column :=
  if table.any (fun d => d.target == c.target) then
    table.map fun d => if d.target = c.target then c else d
  else table ++ [c]

/-- The table after the commit (R130, R131). -/
def tableAfter (mode : LoadMode) (table : List Column) (st : Staging) : List Column :=
  if st.columns.isEmpty then table
  else
    match mode with
    | .replace => st.columns.map (·.column)
    | .merge => st.columns.foldl (fun t c => mergeColumn t c.column) table

/-- The block of the first staged column that would be the ninth (R129): `n` columns stand before. -/
def ninthBlock (table : List Column) : Nat → List StagedColumn → Nat
  | _, [] => 0
  | n, c :: cs =>
    if table.any (fun d => d.target == c.column.target) then ninthBlock table n cs
    else if Config.tableColumns < n + 1 then c.block
    else ninthBlock table (n + 1) cs

/-- The watches after the commit (R131). -/
def watchesAfter (ws : Vector Watch 8) (st : Staging) : Vector Watch 8 :=
  Vector.ofFn fun i =>
    match st.watches[i] with
    | some w => w.watch
    | none => ws[i]

/-- The number of temperature sources (R90). -/
def sourceCount (ws : Vector Watch 8) : Nat := (ws.toList.filter (·.tempSource)).length

/-- The block of the last staged temperature source in chain order (R129). -/
def lastSourceBlock (st : Staging) : Nat :=
  st.watches.toList.foldl (fun n w =>
    match w with
    | some x => if x.watch.tempSource then max n x.block else n
    | none => n) 0

/-- The checks of a commit against the lane's present state (R129). -/
def commitCheck (mode : LoadMode) (L : Lane) (st : Staging) : Except (ChainErr × Nat) Unit :=
  if mode = .merge ∧ Config.tableColumns < (tableAfter mode L.table st).length then
    .error (.tableFull, ninthBlock L.table L.table.length st.columns)
  else if st.hasWatch = true ∧ 1 < sourceCount (watchesAfter L.watches st) then
    .error (.badEntry, lastSourceBlock st)
  else .ok ()

/-- The base layer of chip address `a` after the commit (R3, R130). -/
def baseAfter (mode : LoadMode) (st : Staging) (a : Nat) (e : Entry) : Option Byte :=
  if st.hasBase then
    match st.actionAt a, mode with
    | some (.set v), _ => some v
    | some .clear, _ => none
    | none, .replace => none
    | none, .merge => e.base
  else e.base

/-- The cal layer of chip address `a` after the commit's recall (R132). -/
def calAfter (mode : LoadMode) (L : Lane) (st : Staging) (a : Nat) (e : Entry) : Option Byte :=
  if st.columns.isEmpty then e.cal else calAt (tableAfter mode L.table st) L.index a

/-- A watch set by the commit whose POLL is in flight or due for retry (R131). -/
def commitStales (L : Lane) (inFlight : Option Tx) (st : Staging) : Bool :=
  match L.pollOutstanding inFlight with
  | some i => st.watches[i].isSome
  | none => false

/-- The lane after the commit (R130 to R132): every entry re-derives once. -/
def Lane.commit (L : Lane) (inFlight : Option Tx) (mode : LoadMode) (st : Staging) : Lane :=
  { L with
    image := L.image.mapEntries fun a e =>
      e.setLayers L.options.layerOrder (baseAfter mode st a e) e.hold (calAfter mode L st a e),
    table := tableAfter mode L.table st,
    watches := watchesAfter L.watches st,
    stalePoll := L.stalePoll || commitStales L inFlight st }

/-- The number of addresses whose base layer the commit changes (R132). -/
def baseChanged (mode : LoadMode) (L : Lane) (st : Staging) : Nat :=
  (addresses.filter fun a =>
    decide ((L.image.get a).base ≠ baseAfter mode st a (L.image.get a))).length

/-- The number of watch entries the commit sets (R132). -/
def watchesSet (st : Staging) : Nat := (st.watches.toList.filter Option.isSome).length

/-- The commit as a happening at the lane: applied whole with OK, or nothing with CHAIN_ERROR (R129 to
R133). -/
def Lane.commitOut (L : Lane) (inFlight : Option Tx) (load : ActiveLoad) (st : Staging) : LaneOut :=
  match commitCheck load.mode L st with
  | .error (err, position) =>
    { L.out with done := [{ id := load.id, status := .chainError, detail := some (.chain err),
                            result := some (loadFailResult load.blocksRead position) }] }
  | .ok () =>
    let L' := L.commit inFlight load.mode st
    LaneOut.settleSync
      { L'.out with done := [{ id := load.id, status := .ok, detail := none,
                               result := some (loadOkResult load.blocksRead
                                 (baseChanged load.mode L st) L'.table.length (watchesSet st)
                                 L'.image.queue.length) }] }

end Sys2Proof.Machine
end

