-- ==== Sys2Proof/Machine/HostPort.lean ====
section
/-! DEFINITION. The steps of the Host Port: starts and ends of its transfers (spec/07, spec/08, spec/09,
spec/10). An end acts only on the transfer at the head of the order of service; what is in flight at
RESET ends with its result discarded (R172). -/

namespace Sys2Proof.Machine

/-- The part without the transfer that has just ended: the Host Port goes on with `ts`, and sends the
messages whose turn has come (R163). -/
def State.ended (ts : List Transfer) (s : State) : State := State.sendDue { s with transfers := ts }

/-- Records are written in RUNNING and STOPPING (R149, R159). -/
def DeviceState.writes (d : DeviceState) : Bool := decide (d = .running) || decide (d = .stopping)

/-! ### Setup read (R167 to R169) -/

/-- A START fails (R167, R168). -/
def State.startFailed (err : ErrorCode) (s : State) : State :=
  State.setCauses { Causes.clear with state := true } { s with device := .halted, errorCode := err }

/-- A submission ring as the setup block gives it (R137, R169); an off ring is OFF. -/
def RingSetup.subRing (r : RingSetup) : SubRing :=
  { state := if r.on then .active else .off, base := r.base, size := r.size,
    rights := if r.rights = 1#8 then .observe else .full, head := 0, tail := 0 }

/-- The completion ring or the event ring as the setup block gives it (R147, R157). -/
def RingSetup.outRing (r : RingSetup) : OutRing :=
  { base := r.base, size := r.size, writeSlot := 0, head := 0, occupied := 0, phase := true }

/-- A port takes its record; only a port with no lane bound does (R81, R169). -/
def PortSetup.over (p : PortSetup) (old : Port) : Port :=
  { old with enabled := p.enabled, bitRate := p.bitRate, window := p.window }

/-- The setup block passes and every block takes what it gives (R169). -/
def State.setupTaken (bs : List Byte) (s : State) : State :=
  State.setCauses { Causes.clear with state := true }
    { s with
      device := .running,
      rings := Vector.ofFn fun q => (setupRing bs q).subRing,
      intakePointer := 3,
      cq := (setupCq bs).outRing,
      eq := { s.eq with ring := (setupEq bs).outRing, mask := setupMask bs },
      ports := Vector.ofFn fun p =>
        if s.portBound p then s.ports[p] else (setupPort bs p).over s.ports[p] }

/-- The end of the setup read in STARTING (R167, R168). -/
def State.setupEnd (r : HostRead) (s : State) : State :=
  match r with
  | .error => s.startFailed .setupRead
  | .data bs => if setupPasses bs then s.setupTaken bs else s.startFailed .setupInvalid

/-- SETUP_READ_START (R167). -/
def execSetupReadStart (s : State) : Answer := .next (s.startHead Transfer.isSetupRead)

/-- SETUP_READ_END (R167 to R169). -/
def execSetupReadEnd (result : HostRead) (s : State) : Answer :=
  match s.transfers with
  | .setupRead _ true :: ts =>
    .next (if s.device = .starting then (s.ended ts).setupEnd result else s.ended ts)
  | _ => .next s

/-! ### Intake (R140, R141) -/

/-- The rings in round-robin order, from the one after `p` (R140, R79). -/
def after (p : Fin 4) : List (Fin 4) := [p + 1, p + 2, p + 3, p]

/-- A ring that has a record to fetch (R140). -/
def SubRing.waiting (r : SubRing) : Bool := decide (r.state = .active) && decide (r.head ≠ r.tail)

/-- The ring intake takes (R140). -/
def State.intakeRing (s : State) : Option (Fin 4) :=
  (after s.intakePointer).find? fun q => s.rings[q].waiting

/-- FETCH_START (R140). -/
def execFetchStart (s : State) : Answer :=
  if s.device = .running ∧ s.fetchInFlight = false ∧ s.tableFree = true ∧
      s.finishList.isEmpty = true then
    match s.intakeRing with
    | some q => .next (State.ask { s with intakePointer := q } (.fetch q s.rings[q].headAddr))
    | none => .next s
  else .next s

/-- The end of a fetch from an ACTIVE ring (R141): in STOPPING a record is discarded, a read error puts the
ring in ERROR (notes/assumptions/13.md). -/
def State.fetchTaken (q : Fin 4) (r : HostRead) (s : State) : State :=
  match r with
  | .error => s.ringError q .readError
  | .data bs =>
    if s.device = .running then
      (s.setRing q { s.rings[q] with head := s.rings[q].next }).acceptBytes q bs
    else s

/-- The end of a fetch outside RESETTING (R141): what a ring that is not ACTIVE fetched is discarded. In
STOPPING the end frees the reserved entry, which may be the last of the table (R170,
notes/assumptions/29.md). -/
def State.fetchEnds (q : Fin 4) (r : HostRead) (s : State) : State :=
  let t := if s.rings[q].state = .active then s.fetchTaken q r else s
  if s.device = .stopping then t.settleStop else t

/-- FETCH_END (R141). -/
def execFetchEnd (result : HostRead) (s : State) : Answer :=
  match s.transfers with
  | .fetch q _ :: ts =>
    .next (if s.device = .resetting then s.ended ts else (s.ended ts).fetchEnds q result)
  | _ => .next s

/-! ### Completion writes (R149, R150) -/

/-- The record of an element of the finish list (R149, Table 11-5). -/
def State.completionOf (s : State) : FinishItem → List Byte
  | .refusal id lane status =>
    completionRecord id status none lane s.rings[id.ring].head none s.cq.phase
  | .entry id =>
    match s.entry id with
    | some e =>
      match e.stage with
      | .finished status detail result =>
        completionRecord id status detail (if e.cmd.namesLane then some e.lane else none)
          s.rings[id.ring].head result s.cq.phase
      | .waiting => completionRecord id .ok none none s.rings[id.ring].head none s.cq.phase
      | .active => completionRecord id .ok none none s.rings[id.ring].head none s.cq.phase
    | none => completionRecord id .ok none none s.rings[id.ring].head none s.cq.phase

/-- COMPLETION_WRITE_START (R149). -/
def execCompletionWriteStart (s : State) : Answer :=
  match s.finishList with
  | [] => .next s
  | item :: _ =>
    if s.device.writes = true ∧ s.cq.occupied < s.cq.size ∧ s.completionWriteInFlight = false then
      .next (s.ask (.completionWrite s.cq.slotAddr (s.completionOf item)))
    else .next s

/-- The head of the finish list leaves, and its entry leaves the table (R149). -/
def State.popFinished (s : State) : State :=
  match s.finishList with
  | [] => s
  | .refusal _ _ _ :: rest => { s with finishList := rest }
  | .entry id :: rest =>
    { s with finishList := rest, table := s.table.filter fun e => decide (e.id ≠ id) }

/-- A completion write ends without error (R149, R170). -/
def State.completionWritten (s : State) : State :=
  State.settleStop
    (State.setCauses { Causes.clear with completion := true }
      { s.popFinished with cq := s.cq.written })

/-- COMPLETION_WRITE_END (R149, R150, R171). -/
def execCompletionWriteEnd (result : HostWrite) (s : State) : Answer :=
  match s.transfers with
  | .completionWrite _ _ :: ts =>
    let s1 := s.ended ts
    .next (if s.device = .resetting then s1
           else
             match result with
             | .ok => s1.completionWritten
             | .error => if s.device.writes then s1.hostWriteHalt else s1)
  | _ => .next s

/-! ### Event writes (R159) -/

/-- EVENT_WRITE_START (R159). -/
def execEventWriteStart (s : State) : Answer :=
  match s.eq.pending with
  | [] => .next s
  | e :: _ =>
    if s.device.writes = true ∧ s.eventWriteInFlight = false then
      .next (s.ask (.eventWrite s.eq.ring.slotAddr (eventRecord e s.eq.lost s.eq.ring.phase)
        s.eq.lost))
    else .next s

/-- An event write ends without error (R159); `carried` is the count its record carried. -/
def State.eventWritten (carried : Nat) (s : State) : State :=
  State.setCauses { Causes.clear with event := true }
    { s with eq := { s.eq with ring := s.eq.ring.written, pending := s.eq.pending.tail,
                               lost := s.eq.lost - carried } }

/-- An event write ends with an error after a halt (R150, R161): its event is lost. -/
def State.eventLost (s : State) : State :=
  State.addLost (s.eq.pending.take 1).length
    { s with eq := { s.eq with pending := s.eq.pending.tail } }

/-- EVENT_WRITE_END (R159, R161, R171). -/
def execEventWriteEnd (result : HostWrite) (s : State) : Answer :=
  match s.transfers with
  | .eventWrite _ _ carried :: ts =>
    let s1 := s.ended ts
    .next (if s.device = .resetting then s1
           else
             match result with
             | .ok => s1.eventWritten carried
             | .error => if s.device.writes then s1.hostWriteHalt else s1.eventLost)
  | _ => .next s

/-! ### Chain block reads (R124 to R128, R133, R136) -/

/-- The active load ends with a completion at the end of its read, and the next is taken (R122, R133,
R136). -/
def State.loadEnds (a : ActiveLoad) (status : Status) (detail : Option Detail) (position : Nat)
    (blocksRead : Nat) (s : State) : State :=
  ((s.finish { id := a.id, status := status, detail := detail,
               result := some (loadFailResult blocksRead position) }).nextLoad).release

/-- A block has passed and its content is staged (R124, R128): the chain is whole, or the next block is
asked for, or the chain is too long. -/
def State.blockPassed (a : ActiveLoad) (next : HostAddr) (st : Staging) (s : State) : State :=
  if next = 0 then
    { s with loader :=
      { s.loader with active := some { a with stage := .commitDue, blocksRead := a.blocksRead + 1 },
                      staging := st } }
  else if Config.chainBlocks ≤ a.position then
    s.loadEnds a .chainError (some (.chain .tooLong)) (a.position + 1) (a.blocksRead + 1)
  else
    State.ask
      { s with loader :=
        { s.loader with active := some { a with stage := .read next, position := a.position + 1,
                                                blocksRead := a.blocksRead + 1 },
                        staging := st } }
      (.blockRead next false)

/-- STOP has activated while the command waits for the end of its transfer or frame (R156). -/
def State.stopped (s : State) (id : CmdId) : Bool := ((s.entry id).map (·.stopped)).getD false

/-- The end of the active load's read (R124, R125, R136). -/
def State.blockTaken (a : ActiveLoad) (r : HostRead) (s : State) : State :=
  if s.stopped a.id then s.loadEnds a .aborted none 0 a.blocksRead
  else
    match r with
    | .error => s.loadEnds a .hostMemory none a.position a.blocksRead
    | .data bs =>
      match checkBlock a.position bs s.loader.staging with
      | .error err => s.loadEnds a .chainError (some (.chain err)) a.position a.blocksRead
      | .ok st => s.blockPassed a (blockNext bs) st

/-- The end of a block read that is not discarded by RESET (R122, R124, R135). -/
def State.blockEnd (r : HostRead) (s : State) : State :=
  if s.loader.discarded then
    State.nextLoad { s with loader := { s.loader with discarded := false } }
  else
    match s.loader.active with
    | some a => s.blockTaken a r
    | none => s

/-- BLOCK_READ_START (R124). -/
def execBlockReadStart (s : State) : Answer := .next (s.startHead Transfer.isBlockRead)

/-- BLOCK_READ_END (R124 to R128, R133, R135, R136). -/
def execBlockReadEnd (result : HostRead) (s : State) : Answer :=
  match s.transfers with
  | .blockRead _ true :: ts =>
    .next (if s.device = .resetting then s.ended ts else (s.ended ts).blockEnd result)
  | _ => .next s

/-- CHAIN_COMMIT (R129 to R133): taken when the active load is in stage COMMIT DUE. -/
def execChainCommit (s : State) : Answer :=
  match s.loader.active with
  | some a =>
    if a.stage = .commitDue ∧ s.device ≠ .resetting then
      .next ((s.applyOut a.lane
        (s.lanes[a.lane].commitOut (s.inFlight a.lane) a s.loader.staging)).nextLoad).release
    else .next s
  | none => .next s

/-! ### Report writes (R155) -/

/-- REPORT_WRITE_START (R155). -/
def execReportWriteStart (s : State) : Answer := .next (s.startHead Transfer.isReport)

/-- A report write ends (R155): ABORTED after STOP; OK with the lane state and queue length at the capture,
which are bytes 0 and 19 of the report; HOST_MEMORY on an error. -/
def State.reportWritten (id : CmdId) (report : List Byte) (r : HostWrite) (s : State) : State :=
  if s.stopped id then s.finish (abortedDone id none)
  else
    match r with
    | .ok =>
      s.finish (okDone id
        (some (resultWord (byteAt report 0).toNat (byteAt report 19).toNat 0 0)))
    | .error => s.finish { id := id, status := .hostMemory, detail := none, result := none }

/-- REPORT_WRITE_END (R155). -/
def execReportWriteEnd (result : HostWrite) (s : State) : Answer :=
  match s.transfers with
  | .reportWrite id _ report true :: ts =>
    .next (if s.device = .resetting then s.ended ts
           else (s.ended ts).reportWritten id report result)
  | _ => .next s

end Sys2Proof.Machine
end

