-- ==== Sys2Proof/Machine/LaneRows.lean ====
section
/-! DEFINITION. The steps at the link ports and the lanes: grants and ends of frames (spec/04), poll ticks
and SYNC time limits (spec/03, spec/05), and the Timebase tick. -/

namespace Sys2Proof.Machine

/-! ### Grants (R79) -/

/-- What the lane at a select of a port offers (R79). -/
def State.offer (s : State) (p sel : Fin 4) : Option (Fin 4 × Fin 16 × Choice) :=
  match s.laneAt { port := p, select := sel } with
  | some l => s.lanes[l].choice.map fun c => (sel, l, c)
  | none => none

/-- The first select after the pointer whose lane has a next transaction (R79). -/
def State.arbitrate (s : State) (p : Fin 4) : Option (Fin 4 × Fin 16 × Choice) :=
  (after s.ports[p].pointer).findSome? (s.offer p)

/-- The grant (R27, R74, R79): the pointer moves, the port becomes BUSY, the transaction is fixed. A round
that has no next POLL to offer ends (notes/assumptions/12.md). -/
def State.grant (p sel : Fin 4) (l : Fin 16) (c : Choice) (s : State) : State :=
  (s.setPort p { s.ports[p] with pointer := sel, frame := some { lane := l, tx := c.tx } }).setLane l
    ((s.lanes[l].settleRound none).granted c)

/-- PORT_GRANT (R79): made when the port is IDLE and enabled and a lane of it offers. -/
def execPortGrant (port : Fin 4) (s : State) : Answer :=
  if s.ports[port].enabled = true ∧ s.ports[port].frame = none then
    match s.arbitrate port with
    | some (sel, l, c) => .next (s.grant port sel l c)
    | none => .next s
  else .next s

/-! ### Frame ends (R80, R82) -/

/-- The head of the lane's direct list waits for its frame after STOP (R89). -/
def State.directStopped (s : State) (l : Fin 16) : Bool :=
  match s.lanes[l].directs with
  | r :: _ => s.stopped r.id
  | [] => false

/-- The end of a frame outside RESETTING (R80), and the release that may follow (R145). -/
def State.frameTaken (p : Fin 4) (f : Frame) (o : FrameOutcome) (s : State) : State :=
  ((s.setPort p { s.ports[p] with frame := none }).applyOut f.lane
    (s.lanes[f.lane].frameEnd f.lane f.tx (s.directStopped f.lane) o)).release

/-- FRAME_END (R80): in RESETTING the outcome is discarded and the port takes its reset state (R82). -/
def execFrameEnd (port : Fin 4) (answer : FrameAnswer) (s : State) : Answer :=
  match s.ports[port].frame with
  | some f =>
    if s.device = .resetting then .next (s.setPort port Port.reset)
    else .next (s.frameTaken port f (settle s.ports[port].window f.tx answer))
  | none => .next s

/-! ### Ticks (R67, R92, R93) -/

/-- A SYNC waiter with a limit completes TIMEOUT, alone (R67). -/
def State.timeOut (l : Fin 16) (id : CmdId) (s : State) : State :=
  let L := s.lanes[l]
  if L.waiters.any fun w => decide (w.id = id) && w.remaining.isSome then
    s.applyOut l
      { Lane.out { L with waiters := L.waiters.filter fun w => decide (w.id ≠ id) } with
        waiters := [{ id := id, status := .timeout, detail := none,
                      result := some (syncResult L) }] }
  else s

/-- SYNC_TIMEOUT (R67). -/
def execSyncTimeout (lane : Fin 16) (ring : Fin 4) (tag : Tag) (s : State) : Answer :=
  if s.device = .resetting then .next s
  else .next (s.timeOut lane { ring := ring, tag := tag })

/-- POLL_TICK (R92, R93): the lane's poll timer has reached its period. -/
def execPollTick (lane : Fin 16) (s : State) : Answer :=
  if s.device ≠ .resetting ∧ s.lanes[lane].pollTimed = true then
    .next (s.setLane lane (Lane.pollTick { s.lanes[lane] with pollTimer := 0 } (s.inFlight lane)))
  else .next s

/-- A Timebase tick at one lane: the poll timer, then the SYNC waiters (notes/assumptions/3.md). -/
def State.tickLane (s : State) (l : Fin 16) : State :=
  s.applyOut l (Lane.countWaiters (s.lanes[l].countPoll (s.inFlight l)))

/-- A Timebase tick: one millisecond at every lane in order (notes/assumptions/3.md). -/
def State.timebaseTick (s : State) : State :=
  if s.device = .resetting then s else laneIndices.foldl State.tickLane s

end Sys2Proof.Machine
end

