-- ==== Sys2Proof/Machine/Dispatch.lean ====
section
/-! DEFINITION. One arm per constructor of `Instr`: the meaning of each row of spec/opcode_table.json. -/

namespace Sys2Proof.Machine

def exec (i : Instr) (s : State) : Host.Outcome State Fault Refusal :=
  match i with
  -- Command records (spec/08, Table 8-4)
  | .nop ring tag => Sys2Proof.Machine.execNop ring tag s
  | .laneAttach ring tag lane port select opts => Sys2Proof.Machine.execLaneAttach ring tag lane port select opts s
  | .laneDetach ring tag lane => Sys2Proof.Machine.execLaneDetach ring tag lane s
  | .laneSet ring tag lane opts => Sys2Proof.Machine.execLaneSet ring tag lane opts s
  | .laneQuiesce ring tag lane => Sys2Proof.Machine.execLaneQuiesce ring tag lane s
  | .laneResume ring tag lane => Sys2Proof.Machine.execLaneResume ring tag lane s
  | .laneSync ring tag lane limit => Sys2Proof.Machine.execLaneSync ring tag lane limit s
  | .regSet ring tag lane addr layer value present => Sys2Proof.Machine.execRegSet ring tag lane addr layer value present s
  | .readDirect ring tag lane addr => Sys2Proof.Machine.execReadDirect ring tag lane addr s
  | .writeDirect ring tag lane addr value => Sys2Proof.Machine.execWriteDirect ring tag lane addr value s
  | .watchSet ring tag lane record => Sys2Proof.Machine.execWatchSet ring tag lane record s
  | .flagsClear ring tag lane watchMask flagMask => Sys2Proof.Machine.execFlagsClear ring tag lane watchMask flagMask s
  | .calIndex ring tag lane index => Sys2Proof.Machine.execCalIndex ring tag lane index s
  | .calClear ring tag lane => Sys2Proof.Machine.execCalClear ring tag lane s
  | .chainLoad ring tag lane mode first => Sys2Proof.Machine.execChainLoad ring tag lane mode first s
  | .laneReport ring tag lane buffer => Sys2Proof.Machine.execLaneReport ring tag lane buffer s
  -- Device and register window (spec/10)
  | .start => Sys2Proof.Machine.execStart s
  | .stop => Sys2Proof.Machine.execStop s
  | .reset => Sys2Proof.Machine.execReset s
  | .hostBusReset => Sys2Proof.Machine.execHostBusReset s
  | .powerOn => Sys2Proof.Machine.execPowerOn s
  | .resetEnd => Sys2Proof.Machine.execResetEnd s
  | .post ring tail => Sys2Proof.Machine.execPost ring tail s
  | .ringReturn ring head => Sys2Proof.Machine.execRingReturn ring head s
  | .statusWrite value => Sys2Proof.Machine.execStatusWrite value s
  | .intEnableWrite value => Sys2Proof.Machine.execIntEnableWrite value s
  | .registerWrite reg value => Sys2Proof.Machine.execRegisterWrite reg value s
  -- Host Port (spec/07 to spec/10)
  | .setupReadStart => Sys2Proof.Machine.execSetupReadStart s
  | .setupReadEnd result => Sys2Proof.Machine.execSetupReadEnd result s
  | .fetchStart => Sys2Proof.Machine.execFetchStart s
  | .fetchEnd result => Sys2Proof.Machine.execFetchEnd result s
  | .completionWriteStart => Sys2Proof.Machine.execCompletionWriteStart s
  | .completionWriteEnd result => Sys2Proof.Machine.execCompletionWriteEnd result s
  | .eventWriteStart => Sys2Proof.Machine.execEventWriteStart s
  | .eventWriteEnd result => Sys2Proof.Machine.execEventWriteEnd result s
  -- Lanes and ports (spec/03 to spec/05)
  | .portGrant port => Sys2Proof.Machine.execPortGrant port s
  | .frameEnd port answer => Sys2Proof.Machine.execFrameEnd port answer s
  | .syncTimeout lane ring tag => Sys2Proof.Machine.execSyncTimeout lane ring tag s
  | .pollTick lane => Sys2Proof.Machine.execPollTick lane s
  -- Chain Loader and reports (spec/07, spec/08)
  | .blockReadStart => Sys2Proof.Machine.execBlockReadStart s
  | .blockReadEnd result => Sys2Proof.Machine.execBlockReadEnd result s
  | .chainCommit => Sys2Proof.Machine.execChainCommit s
  | .reportWriteStart => Sys2Proof.Machine.execReportWriteStart s
  | .reportWriteEnd result => Sys2Proof.Machine.execReportWriteEnd result s

end Sys2Proof.Machine
end

