-- ==== Sys2Proof/Machine/Step.lean ====
section
/-! DEFINITION. One step of the block: the command at the front of the queue, or a Timebase tick when no
command waits. -/

namespace Sys2Proof.Machine

/-- The command at the front of the queue acts on the part with the queue's rest. On an empty queue one
millisecond of the Timebase passes (DESIGN CHOICE, notes/assumptions/3.md). -/
def step (s : State) : Host.Outcome State Fault Refusal :=
  match s.pending with
  | [] => .next s.timebaseTick
  | i :: rest => exec i { s with pending := rest }

/-- The command that a word spells by the table, put at the front of the queue; `s` when the word spells
none, which is every word (notes/assumptions/24.md). -/
def State.withFetchWord (s : State) (nbits w : Nat) : State :=
  match decodeTableWord nbits w with
  | some i => { s with pending := i :: s.pending }
  | none => s

end Sys2Proof.Machine
end

