-- ==== Sys2Proof/Safety.lean ====
section
/-! DEFINITION. What counts as a safe state of the part, in the terms the claims use: the invariants of the
lane images, calibration, watches, links, the Outstanding Command Table, the record rings and the Chain
Loader; and the words of the claims about single commands. -/

namespace Sys2Proof.Machine

/-! ### Lane images (Table 1-3, R6, R10, R17) -/

/-- A write-back queue holds each chip address at most once, and exactly the DIRTY ones (R17). -/
def Image.QueueExact (im : Image) : Prop :=
  im.queue.Nodup ∧ (∀ a ∈ im.queue, a ∈ addresses) ∧
    ∀ a ∈ addresses, (a ∈ im.queue ↔ (im.get a).state = .dirty)

/-- The conditions of Table 1-3 on the intended, applied and in-flight values of a state (R10). -/
def Entry.Fits (e : Entry) : Prop :=
  match e.state with
  | .unmanaged => e.intended = none ∧ e.applied = none
  | .clean => e.intended.isSome ∧ e.applied = e.intended
  | .dirty => e.intended.isSome ∧ e.applied ≠ e.intended
  | .pending => e.inFlight.isSome
  | .refused => e.intended.isSome

/-- An entry under a layer order (R6, R10, Table 1-1): intended is the first present layer, the state's
conditions hold, and in-flight value, attempts and refusal reason are there only in their states. -/
def Entry.Ok (o : LayerOrder) (e : Entry) : Prop :=
  e.intended = layered o e.base e.hold e.cal ∧ e.Fits ∧
    (e.state ≠ .pending → e.inFlight = none ∧ e.attempts = 0) ∧ e.attempts ≤ 3 ∧
    (e.refusal.isSome ↔ e.state = .refused)

/-- The options lie in the ranges of Table 3-3. -/
def Options.Ranged (o : Options) : Prop := o.pollPeriod ≤ 1000 ∧ o.retryLimit ≤ 3 ∧ o.hysteresis ≤ 4

/-- A lane's image and options as chapters 1 and 3 keep them; a DETACHED lane holds the reset contents. -/
def Lane.ImageOk (L : Lane) : Prop :=
  L.image.QueueExact ∧ (∀ a ∈ addresses, (L.image.get a).Ok L.options.layerOrder) ∧
    L.options.Ranged ∧ (L.state = .detached → L = Lane.reset)

/-- The Chain Loader holds loads only for lanes that are neither DETACHED nor DETACHING (R123, R135). -/
def State.LoadsOpen (s : State) : Prop :=
  (∀ q ∈ s.loader.queue, s.lanes[q.lane].closed = false) ∧
    ∀ a ∈ s.loader.active, s.lanes[a.lane].closed = false

/-- The image invariant: every lane's image, and the loads that may commit to one. -/
def ImageInv (s : State) : Prop := (∀ l : Fin 16, s.lanes[l].ImageOk) ∧ s.LoadsOpen

/-! ### Calibration (R115, R126, R127) -/

/-- Columns of distinct targets 1 to 63, at most eight of them. -/
def ColumnsOk (cs : List Column) : Prop :=
  (cs.map (·.target)).Nodup ∧ (∀ c ∈ cs, c.target ∈ addresses) ∧ cs.length ≤ Config.tableColumns

/-- A lane's cal layers in the words of R115: an entry's cal layer is present exactly when the table has a
column for its address and the index is present, and is then that column's row value at the index. -/
def Lane.CalOk (L : Lane) : Prop :=
  ColumnsOk L.table ∧ ∀ a ∈ addresses,
    match L.index with
    | none => (L.image.get a).cal = none
    | some i =>
      (∀ c ∈ L.table, c.target = a → (L.image.get a).cal = some c.rows[i]) ∧
        ((∀ c ∈ L.table, c.target ≠ a) → (L.image.get a).cal = none)

/-- The calibration invariant: every lane's table and cal layers, and the staged columns. -/
def CalInv (s : State) : Prop :=
  (∀ l : Fin 16, s.lanes[l].CalOk) ∧ ColumnsOk (s.loader.staging.columns.map (·.column))

/-! ### Watches (R90) -/

/-- A watch's address and limits, and that a temperature source is signed (R90). -/
def Watch.Ok (w : Watch) : Prop :=
  w.address ≤ 63 ∧ pairInOrder w.signed w.alarmLow w.alarmHigh = true ∧
    pairInOrder w.signed w.warnLow w.warnHigh = true ∧ (w.tempSource = true → w.signed = true)

/-- A lane's eight watches: each is well set and at most one is a temperature source (R90). -/
def Lane.WatchesOk (L : Lane) : Prop := (∀ i : Fin 8, L.watches[i].Ok) ∧ sourceCount L.watches ≤ 1

/-- The watch invariant: every lane's watches, and the staged records. -/
def WatchInv (s : State) : Prop :=
  (∀ l : Fin 16, s.lanes[l].WatchesOk) ∧
    ∀ i : Fin 8, ∀ w ∈ s.loader.staging.watches[i], w.watch.Ok

/-! ### Bindings, frames and the write in progress (R28, R45, R64, R75, R78) -/

/-- The lane's items that go with its state (Figure 3-1, R64, R94, R96). -/
def Lane.Shaped (L : Lane) : Prop :=
  (L.state = .detached → L = Lane.reset) ∧ (L.state ≠ .detached → L.binding.isSome) ∧
    (L.purpose.isSome ↔ L.state = .probing) ∧ (L.round.isSome → L.state = .active)

/-- A transaction of the write of address `a`. -/
def Tx.writes (a : Nat) : Tx → Prop
  | .wb b _ => b = a
  | .verify b => b = a
  | .check => False
  | .ack => False
  | .poll _ _ => False
  | .directRead _ => False
  | .directWrite _ _ => False

/-- No two attached lanes share a binding (R45). -/
def State.BindingsDistinct (s : State) : Prop :=
  ∀ l m : Fin 16, s.lanes[l].attached = true → s.lanes[m].attached = true →
    s.lanes[l].binding = s.lanes[m].binding → l = m

/-- Outside RESETTING an attached lane's port is enabled, and a frame in flight is that of an attached lane
of its port (R78, R81). -/
def State.PortsServe (s : State) : Prop :=
  (∀ l : Fin 16, s.lanes[l].attached = true → ∀ b ∈ s.lanes[l].binding, s.ports[b.port].enabled = true) ∧
    ∀ p : Fin 4, ∀ f ∈ s.ports[p].frame, s.lanes[f.lane].attached = true ∧
      s.lanes[f.lane].binding.map (·.port) = some p

/-- A lane has at most one PENDING entry, and only in ACTIVE, QUIESCING or DETACHING (R28). -/
def Lane.OnePending (L : Lane) : Prop :=
  ∀ a ∈ addresses, (L.image.get a).state = .pending →
    (L.state = .active ∨ L.state = .quiescing ∨ L.state = .detaching) ∧
      ∀ b ∈ addresses, (L.image.get b).state = .pending → b = a

/-- A PENDING entry's write has its frame in flight, or its retry or VERIFY due (R10, R28, R75). -/
def Lane.WriteLives (L : Lane) (inFlight : Option Tx) : Prop :=
  (inFlight.isSome → L.retryDue = none) ∧
    ∀ a ∈ addresses, (L.image.get a).state = .pending →
      (∃ tx, inFlight = some tx ∧ tx.writes a) ∨
        (inFlight = none ∧ L.state = .active ∧
          ((∃ tx, L.retryDue = some tx ∧ tx.writes a) ∨ (L.retryDue = none ∧ L.verifyDue = true)))

/-- The link invariant; in RESETTING a port with no frame in flight is not enabled, so that it grants nothing
(R81, R82). -/
def LinkInv (s : State) : Prop :=
  (∀ l : Fin 16, s.lanes[l].Shaped ∧ s.lanes[l].OnePending) ∧ s.LoadsOpen ∧ s.BindingsDistinct ∧
    (s.device ≠ .resetting → s.PortsServe ∧ ∀ l : Fin 16, s.lanes[l].WriteLives (s.inFlight l)) ∧
    (s.device = .resetting → ∀ p : Fin 4, s.ports[p].frame = none → s.ports[p].enabled = false)

/-! ### The Outstanding Command Table and the finish list (R140, R144, R148, R149) -/

/-- The command of an element of the finish list that is a table entry. -/
def FinishItem.entryId : FinishItem → Option CmdId
  | .entry id => some id
  | .refusal _ _ _ => none

/-- The table invariant: at most 32 commands with the reserved entry counted, no two of one ring and tag,
and the finish list holds exactly the FINISHED ones, once each, and at most one refusal. -/
def TableInv (s : State) : Prop :=
  (s.table.map (·.id)).Nodup ∧
    s.table.length + s.transfers.countP Transfer.isFetch ≤ Config.tableSize ∧
    (∀ e ∈ s.table, (e.finished = true ↔ FinishItem.entry e.id ∈ s.finishList)) ∧
    (s.finishList.filterMap FinishItem.entryId).Nodup ∧
    (∀ id ∈ s.finishList.filterMap FinishItem.entryId, id ∈ s.table.map (·.id)) ∧
    s.finishList.countP FinishItem.isRefusal + s.transfers.countP Transfer.isFetch ≤ 1

/-! ### Record rings and interrupt messages (R137, R147, R150, R157, R161, R163) -/

/-- The sizes a ring can have (R168). -/
def ringSizes : List Nat := [16, 32, 64, 128, 256, 512, 1024]

/-- The positions of a completion or event ring: the write slot stands `occupied` slots past the head, and
no more slots are written and not returned than there are (R147, R150). -/
def OutRing.Ok (r : OutRing) : Prop :=
  r.size ∈ ringSizes ∧ aligned64 r.base = true ∧ r.head < r.size ∧ r.occupied ≤ r.size ∧
    r.writeSlot = (r.head + r.occupied) % r.size

/-- A submission ring that is not OFF has its positions inside it (Figure 8-1). -/
def SubRing.Ok (r : SubRing) : Prop :=
  r.state ≠ .off →
    r.size ∈ ringSizes ∧ aligned64 r.base = true ∧ r.head < r.size ∧ r.tail < r.size

/-- The ring invariant: a record in flight or pending has a slot that the host has returned (R150); in HALTED
and STARTING an event is pending only while its write is in flight, and in RESETTING none is (R161); a message
at the head of the Host Port's order has been sent, and in RESETTING none waits (R163). -/
def RingInv (s : State) : Prop :=
  (∀ q : Fin 4, s.rings[q].Ok) ∧ s.cq.Ok ∧ s.eq.ring.Ok ∧
    s.transfers.countP Transfer.isCompletionWrite ≤ 1 ∧
    s.cq.occupied + s.transfers.countP Transfer.isCompletionWrite ≤ s.cq.size ∧
    s.transfers.countP Transfer.isEventWrite ≤ 1 ∧
    (s.device ≠ .resetting → s.transfers.countP Transfer.isEventWrite ≤ s.eq.pending.length) ∧
    s.eq.ring.occupied + s.eq.pending.length ≤ s.eq.ring.size ∧
    s.eq.lost ≤ Config.countMax ∧
    (s.device = .halted ∨ s.device = .starting →
      s.eq.pending.length ≤ s.transfers.countP Transfer.isEventWrite) ∧
    (s.device = .resetting → s.eq.pending = []) ∧
    (∀ t ∈ s.transfers.head?, t.isMessage = false) ∧
    (s.device = .resetting → ∀ t ∈ s.transfers, t.isMessage = false)

/-! ### The Chain Loader (R122, R124, R128) -/

/-- The block reads the Chain Loader has outstanding: one while a block is to be read, and the discarded one. -/
def Loader.reads (d : Loader) : Nat :=
  (match d.active with
   | some a =>
     match a.stage with
     | .read _ => 1
     | .commitDue => 0
   | none => 0) + d.discarded.toNat

/-- The loader invariant (R122, R124, R128). -/
def LoaderInv (s : State) : Prop :=
  s.loader.queue.length ≤ Config.loaderQueueSize ∧
    (s.loader.active = none →
      s.loader.staging = Staging.reset ∧ (s.loader.discarded = false → s.loader.queue = [])) ∧
    (∀ a ∈ s.loader.active,
      s.loader.discarded = false ∧ 1 ≤ a.position ∧ a.position ≤ Config.chainBlocks) ∧
    (s.device ≠ .resetting →
      s.transfers.countP Transfer.isBlockRead = s.loader.reads ∧
        (s.loader.discarded = true → ∀ t ∈ s.transfers, t.isBlockRead = true → t.started = true))

/-! ### Counters and SETUP_BASE (R54, R97, R164) -/

/-- The counts stay at their ends, and the six lowest bits of SETUP_BASE are zero. -/
def CountInv (s : State) : Prop :=
  (∀ l : Fin 16, s.lanes[l].restartCount ≤ Config.restartMax ∧
    s.lanes[l].overrunCount ≤ Config.countMax) ∧
    s.eq.lost ≤ Config.countMax ∧ aligned64 s.setupBase = true

/-! ### Words of the claims about commands -/

/-- The row of the table that a record of a submission ring is. -/
def Request.row (r : Request) : Instr :=
  match r.cmd with
  | .nop => .nop r.id.ring r.id.tag
  | .laneAttach p sel o => .laneAttach r.id.ring r.id.tag r.lane p sel o
  | .laneDetach => .laneDetach r.id.ring r.id.tag r.lane
  | .laneSet o => .laneSet r.id.ring r.id.tag r.lane o
  | .laneQuiesce => .laneQuiesce r.id.ring r.id.tag r.lane
  | .laneResume => .laneResume r.id.ring r.id.tag r.lane
  | .laneSync n => .laneSync r.id.ring r.id.tag r.lane n
  | .regSet a y v p => .regSet r.id.ring r.id.tag r.lane a y v p
  | .readDirect a => .readDirect r.id.ring r.id.tag r.lane a
  | .writeDirect a v => .writeDirect r.id.ring r.id.tag r.lane a v
  | .watchSet w => .watchSet r.id.ring r.id.tag r.lane w
  | .flagsClear w f => .flagsClear r.id.ring r.id.tag r.lane w f
  | .calIndex i => .calIndex r.id.ring r.id.tag r.lane i
  | .calClear => .calClear r.id.ring r.id.tag r.lane
  | .chainLoad m f => .chainLoad r.id.ring r.id.tag r.lane m f
  | .laneReport b => .laneReport r.id.ring r.id.tag r.lane b

/-- A record passes checks 1 to 4 as a command for lane `l` and no barrier holds it back, so that it
activates at once (R140 to R144). `intakeOpen` is when the model takes a command's row at all, the model's
choice (notes/assumptions/1.md). -/
def Activates (s : State) (r : Request) (l : Fin 16) : Prop :=
  s.intakeOpen r.id.ring = true ∧ permits s.rings[r.id.ring].rights r.cmd = true ∧
    (∀ e ∈ s.table, e.id ≠ r.id) ∧ r.lane.toNat = l.val ∧
    heldBack s.table r.id.ring r.lane r.cmd = false

/-- The command stands in the table in stage ACTIVE, behind every earlier entry. -/
def State.opened (s : State) (r : Request) : State := { s with table := s.table ++ [r.entry .active] }

/-- The command stands in the table FINISHED, behind every earlier entry, and at the finish list's tail. -/
def State.completed (s : State) (r : Request) (status : Status) (result : Option Word) : State :=
  { s with table := s.table ++ [r.entry (.finished status none result)],
           finishList := s.finishList ++ [.entry r.id] }

/-- What the lane's in-sync condition does at the end of a command's effect (R46, R67): with the lane in
sync every SYNC waiter completes OK with the command, in the order of the finish list; otherwise the
command alone completes. The order in which the command and the waiters join the finish list
(`completionOrder`: fetch order, the waiters in their own) is the model's reading of R67 and R146
(notes/assumptions/9.md). -/
def State.completedSync (s : State) (l : Fin 16) (L : Lane) (r : Request) (result : Word) : State :=
  if L.inSync then
    ((s.opened r).setLane l { L with waiters := [] }).finishAll
      (completionOrder (s.opened r).table
        [{ id := r.id, status := .ok, detail := none, result := some result }]
        (L.waiterCompletions .ok))
  else (s.setLane l L).completed r .ok (some result)

/-- What the end of port `p`'s frame leaves, before the release of R145: the port IDLE with its settings and
pointer, lane `l` as given, the events raised, the commands finished; and, where the lane as given is in
sync, every SYNC waiter of it completed OK (R46, R67, R80). The order of commands and waiters on the finish
list (`completionOrder`) is the model's reading (notes/assumptions/9.md), and so is that of the release that
follows (notes/assumptions/8.md). -/
def State.frameLeft (s : State) (p : Fin 4) (l : Fin 16) (L : Lane) (events : List Event)
    (done waiters : List Completion) : State :=
  (((s.setPort p { s.ports[p] with frame := none }).setLane l
    { L with waiters := if L.inSync then [] else L.waiters }).raiseAll events).finishAll
      (completionOrder s.table done
        (waiters ++ if L.inSync then L.waiterCompletions .ok else []))

/-- What the end or the withdrawal of a transfer leaves at the Host Port: it goes on with `ts`, and an interrupt
message that then stands ahead of every other transfer is sent in its turn (R163, notes/assumptions/6.md). -/
def State.afterTransfer (s : State) (ts : List Transfer) : State :=
  { s with transfers := ts.dropWhile Transfer.isMessage,
           messages := s.messages + (ts.takeWhile Transfer.isMessage).length }

/-- What a halt leaves (R161, R170, R171): the part HALTED with error code `code`, every submission ring OFF
with its positions kept, every pending event whose write is not in flight counted as lost, and the causes
`c` set. -/
def State.haltLeft (s : State) (code : ErrorCode) (c : Causes) : State :=
  let kept := if ∃ x ∈ s.transfers, x.isEventWrite = true then s.eq.pending.take 1 else []
  State.setCauses c
    { s with
      device := .halted, errorCode := code,
      rings := Vector.ofFn fun q => { s.rings[q] with state := .off },
      eq := { s.eq with
        pending := kept, lost := min (s.eq.lost + (s.eq.pending.length - kept.length)) 65535 } }

/-- The part in STOPPING once nothing keeps it there (R170): HALTED when the table, with the entry that a fetch
in flight reserves (notes/assumptions/29.md), and the finish list are empty. -/
def State.stopLeft (s : State) : State :=
  if s.device = .stopping ∧ s.table = [] ∧ s.finishList = [] ∧
      ∀ x ∈ s.transfers, x.isFetch = false then
    s.haltLeft s.errorCode { completion := false, event := false, error := false, state := true }
  else s

/-- The lane's POLL of watch `i` is in flight, or is due for retry with none in flight (R75, R104). -/
def Lane.PollOf (L : Lane) (inFlight : Option Tx) (i : Fin 8) : Prop :=
  ∃ x, inFlight = some (.poll i x) ∨
    L.retryDue = some (.poll i x) ∧ ∀ j y, inFlight ≠ some (.poll j y)

/-- A round is in progress that has its CHECK to take, a POLL outstanding, or an ACTIVE watch left above its
position (R94). That a round with none of these is over at the next grant or tick is the model's reading
(notes/assumptions/12.md). -/
def Lane.RoundGoesOn (L : Lane) (inFlight : Option Tx) : Prop :=
  L.round = some .atCheck ∨
    ∃ position, L.round = some (.polling position) ∧
      ((∃ i, L.PollOf inFlight i) ∨
        ∃ i : Fin 8, (∀ j ∈ position, j < i) ∧ L.watches[i].state = .active)

/-- What a poll tick leaves of the lane (R92, R93, R97): the timer at 0; in ACTIVE a round begun with its CHECK
due, or the overrun count raised where one goes on; in any other state nothing more. -/
def Lane.Ticked (L M : Lane) (inFlight : Option Tx) : Prop :=
  (L.state ≠ .active → M = { L with pollTimer := 0 }) ∧
    (L.state = .active → ¬ L.RoundGoesOn inFlight →
      M = { L with pollTimer := 0, round := some .atCheck, checkDue := true }) ∧
    (L.state = .active → L.RoundGoesOn inFlight →
      M = { L with pollTimer := 0, overrunCount := min (L.overrunCount + 1) 65535 })

/-- The port's frame in flight is transaction `tx` of lane `l`, and the answer on the line gives it the
outcome `o` (R71, R80). -/
def Ending (s : State) (p : Fin 4) (l : Fin 16) (tx : Tx) (a : FrameAnswer) (o : FrameOutcome) : Prop :=
  s.device ≠ .resetting ∧ s.ports[p].frame = some { lane := l, tx := tx } ∧
    settle s.ports[p].window tx a = o

/-- A lane that has become FAULTED (R52, R57): no due work, no round, no retry, no waiter. -/
def Lane.faulted (L : Lane) : Lane :=
  { L with state := .faulted, purpose := none, checkDue := false, ackDue := false, verifyDue := false,
           retryDue := none, retryCount := 0, round := none, stalePoll := false, waiters := [] }

end Sys2Proof.Machine
end

