-- ==== Sys2Proof/Certificates/Slice0/Obligations.lean ====
section
/-! DEFINITION. The statements for the provers. Their words (`Activates`, `State.completed`, the invariants)
stand in Sys2Proof/Safety.lean. -/

open Sys2Proof Sys2Proof.Machine

/-! ### The step -/

/-- The command at the front of the queue acts on the part with the queue's rest. -/
def Obligations.StepRunsFrontCommand : Prop :=
  ∀ (c : Instr) (rest : List Instr) (s : State),
    step { s with pending := c :: rest } = exec c { s with pending := rest }

/-- The MODEL's choice (notes/assumptions/3.md): with no command waiting one millisecond passes, and nothing but
lanes, table and finish list changes. At every lane outside RESETTING the poll timer counts, and at the poll
period a tick begins a round, is skipped or is ignored (R92, R93; that a round with nothing left is over at a
tick is notes/assumptions/12.md's). The SYNC limits count down, and a waiter whose limit expires leaves its lane
and finishes TIMEOUT with the lane's state and queue length, lane 0 first (R67). -/
def Obligations.EmptyQueueIsOneMillisecond : Prop :=
  ∀ s : State, s.pending = [] →
    ∃ t, step s = .next t ∧
      t = { s with lanes := t.lanes, table := t.table, finishList := t.finishList } ∧
      (s.device = .resetting → t = s) ∧
      (s.device ≠ .resetting →
        (∀ (l : Fin 16) (L : Lane), L = s.lanes[l] → ∃ M : Lane,
          t.lanes[l] = { M with waiters :=
            ((L.waiters.filter fun w => decide (w.remaining ≠ some 0 ∧ w.remaining ≠ some 1)).map
              fun w => { w with remaining := w.remaining.map (· - 1) }) } ∧
          (L.state = .detached ∨ L.options.pollPeriod = 0 → M = L) ∧
          (L.state ≠ .detached → L.pollTimer + 1 < L.options.pollPeriod →
            M = { L with pollTimer := L.pollTimer + 1 }) ∧
          (L.state ≠ .detached → L.options.pollPeriod ≠ 0 → L.options.pollPeriod ≤ L.pollTimer + 1 →
            L.Ticked M (s.inFlight l))) ∧
        ∀ (expired : Fin 16 → List Waiter) (all : List CmdId),
          (∀ l, expired l =
            s.lanes[l].waiters.filter fun w => decide (w.remaining = some 0 ∨ w.remaining = some 1)) →
          all = (List.finRange 16).flatMap (fun l => (expired l).map (·.id)) → all.Nodup →
          (∀ id ∈ all, ∃ e ∈ s.table, e.id = id ∧ e.finished = false) → (s.table.map (·.id)).Nodup →
          t.finishList = s.finishList ++ all.map .entry ∧ t.table.length = s.table.length ∧
          ∀ (k : Nat) (e : OctEntry), s.table[k]? = some e →
            (e.id ∉ all → t.table[k]? = some e) ∧
            ∀ l, (∃ w ∈ expired l, w.id = e.id) → t.table[k]? = some { e with
              stage := Stage.finished .timeout none (some (resultWord (laneStateCode s.lanes[l].state)
                s.lanes[l].image.queue.length 0 0)) })

/-- No command and no tick stops the part, and each takes one command off the queue: every step answers a next
state whose queue is the rest of the one before. -/
def Obligations.StepGoesOn : Prop :=
  ∀ s : State, ∃ t, step s = .next t ∧ t.pending = s.pending.tail

/-! ### Reset -/

/-- The part after power-on as the spec gives it (R24, R44, R81, R109, R122, R137, R147, R157, R172). -/
def Obligations.ResetLeaves : Prop :=
  let s := State.reset
  s.device = .halted ∧ s.errorCode = .none ∧ s.statusWord = 0 ∧ s.readRegister .intEnable = 0 ∧
    s.readRegister .setupLow = 0 ∧ s.readRegister .setupHigh = 0 ∧ s.table = [] ∧ s.finishList = [] ∧
    s.intakePointer = 3 ∧
    (∀ q : Fin 4, s.rings[q] =
      { state := .off, base := 0, size := 16, rights := .full, head := 0, tail := 0 }) ∧
    s.cq = { base := 0, size := 16, writeSlot := 0, head := 0, occupied := 0, phase := true } ∧
    s.eq.ring = { base := 0, size := 16, writeSlot := 0, head := 0, occupied := 0, phase := true } ∧
    s.eq.pending = [] ∧ s.eq.lost = 0 ∧ s.eq.mask = 0 ∧
    s.loader.queue = [] ∧ s.loader.active = none ∧ s.loader.discarded = false ∧
    (∀ p : Fin 4, s.ports[p] =
      { enabled := false, bitRate := 1, window := 64, pointer := 3, frame := none }) ∧
    ∀ l : Fin 16, s.lanes[l].state = .detached ∧ s.lanes[l].binding = none ∧
      s.lanes[l].purpose = none ∧ s.lanes[l].transition = none ∧ s.lanes[l].checkDue = false ∧
      s.lanes[l].ackDue = false ∧ s.lanes[l].restartCount = 0 ∧ s.lanes[l].overrunCount = 0 ∧
      s.lanes[l].waiters = [] ∧ s.lanes[l].directs = [] ∧ s.lanes[l].round = none ∧
      s.lanes[l].pollTimer = 0 ∧ s.lanes[l].index = none ∧ s.lanes[l].table = [] ∧
      s.lanes[l].options =
        { pollPeriod := 100, retryLimit := 2, verify := false, layerOrder := .holdFirst,
          hysteresis := 2, indexMode := .auto, alarmLatch := .latched, warnLatch := .live,
          indexEvents := false } ∧
      s.lanes[l].image.queue = [] ∧
      (∀ a ∈ addresses, s.lanes[l].image.get a = Entry.reset) ∧
      ∀ i : Fin 8, s.lanes[l].watches[i] = Watch.reset

/-- The state after reset meets every invariant. -/
def Obligations.ResetMeetsTheInvariants : Prop :=
  ImageInv State.reset ∧ CalInv State.reset ∧ WatchInv State.reset ∧ LinkInv State.reset ∧
    TableInv State.reset ∧ RingInv State.reset ∧ LoaderInv State.reset ∧ CountInv State.reset

/-! ### Invariants of every step -/

/-- Every step keeps each lane's write-back queue exactly its DIRTY entries, each entry's state true to its
values and its intended value the first present layer, and a DETACHED lane cleared (R6, R10, R17, R64). -/
def Obligations.StepKeepsImages : Prop := ∀ s t : State, ImageInv s → step s = .next t → ImageInv t

/-- Every step keeps each cal layer present exactly when its address has a column and the index is present, and
then equal to the column's row value at the index (R115), and at most one, signed,
temperature source a lane with its limits in order (R90). -/
def Obligations.StepKeepsCalibrationAndWatches : Prop :=
  ∀ s t : State, step s = .next t → (CalInv s → CalInv t) ∧ (WatchInv s → WatchInv t)

/-- Every step keeps bindings distinct, at most one PENDING entry a lane, and that entry's write alive, and in
RESETTING every port without a frame in flight disabled (R10, R28, R45, R64, R75, R78, R81, R82). -/
def Obligations.StepKeepsLinks : Prop := ∀ s t : State, LinkInv s → step s = .next t → LinkInv t

/-- Every step keeps the Outstanding Command Table within 32 commands, no two of one ring and tag, and the
finish list exactly its FINISHED entries (R140, R144, R148, R149). -/
def Obligations.StepKeepsTheTable : Prop := ∀ s t : State, TableInv s → step s = .next t → TableInv t

/-- Every step keeps the completion and event rings within the slots that the host has returned (R150), the
pending event list as R161 has it in HALTED, STARTING and RESETTING, no interrupt message waiting behind
nothing and none in RESETTING (R163), and the restart, overrun and lost-event counts at their ends and
SETUP_BASE a multiple of 64 (R54, R97, R160, R164). -/
def Obligations.StepKeepsRingsAndCounts : Prop :=
  ∀ s t : State, step s = .next t → (RingInv s → RingInv t) ∧ (CountInv s → CountInv t)

/-- Every step keeps the Chain Loader to one active load, eight waiting loads and one read outstanding
(R122, R124, R128). -/
def Obligations.StepKeepsTheLoader : Prop :=
  ∀ s t : State, LoaderInv s → step s = .next t → LoaderInv t

/-! ### Images -/

/-- Layers, the intended value and re-derivation on a change of the intended value (R6, R7, R8, R13, R15,
Table 1-4), for an entry that was kept under the layer order `old` and is taken under `o`: nothing but the
layers changes where the intended value stays; a PENDING entry records the new value; any other entry takes
the state of Table 1-4. -/
def Obligations.LayerChangeRederives : Prop :=
  ∀ (old o : LayerOrder) (e : Entry) (b h c v : Option Byte), e.Ok old →
    v = (match o with
      | .holdFirst => if h.isSome then h else if c.isSome then c else b
      | .calFirst => if c.isSome then c else if h.isSome then h else b) →
    (v = e.intended → e.setLayers o b h c = { e with base := b, hold := h, cal := c }) ∧
    (v ≠ e.intended → e.state = .pending →
      e.setLayers o b h c = { e with base := b, hold := h, cal := c, intended := v }) ∧
    (v ≠ e.intended → e.state ≠ .pending → v = none →
      e.setLayers o b h c = { Entry.reset with base := b, hold := h, cal := c }) ∧
    (v ≠ e.intended → e.state ≠ .pending → v ≠ none → v = e.applied →
      e.setLayers o b h c =
        { e with base := b, hold := h, cal := c, intended := v, state := .clean, refusal := none }) ∧
    (v ≠ e.intended → e.state ≠ .pending → v ≠ none → v ≠ e.applied →
      e.setLayers o b h c =
        { e with base := b, hold := h, cal := c, intended := v, state := .dirty, refusal := none })

/-- The write-back queue at one happening (R18, R19): DIRTY addresses that stay DIRTY keep their places, those
no longer DIRTY leave, and those newly DIRTY join behind them in ascending order. -/
def Obligations.QueueFollowsTheEntries : Prop :=
  ∀ (im : Image) (f : Nat → Entry → Entry), im.QueueExact →
    (∀ a ∈ addresses, (im.mapEntries f).get a = f a (im.get a)) ∧
    ∃ joined : List Nat,
      (im.mapEntries f).queue =
        (im.queue.filter fun a => decide ((f a (im.get a)).state = .dirty)) ++ joined ∧
      joined.Pairwise (· < ·) ∧
      ∀ a, a ∈ joined ↔ a ∈ addresses ∧ (f a (im.get a)).state = .dirty ∧ a ∉ im.queue

/-- The image rebuild of a restart, with no entry PENDING (R20): managed entries become DIRTY with applied
absent, unmanaged ones stay, and the queue becomes every managed address in ascending order. -/
def Obligations.RebuildReplaysTheImage : Prop :=
  ∀ (im : Image) (o : LayerOrder),
    (∀ a ∈ addresses, (im.get a).Ok o ∧ (im.get a).state ≠ .pending) →
    im.rebuild.queue = addresses.filter (fun a => (im.get a).intended.isSome) ∧
    ∀ a ∈ addresses, im.rebuild.get a =
      if (im.get a).intended.isSome then
        { im.get a with applied := none, state := .dirty, refusal := none }
      else im.get a

/-! ### Calibration, watches, events -/

/-- The row of a reading (R110): (T + 40) / 5 rounded toward minus infinity and clamped to 0..31. It is not
kept: a reading changes nothing of its lane but the index and the image, and nothing in MANUAL. -/
def Obligations.RowOfReading : Prop :=
  (∀ T : Int,
    ((T + 40) / 5 < 0 → (rowOf T).val = 0) ∧ (31 < (T + 40) / 5 → (rowOf T).val = 31) ∧
      (0 ≤ (T + 40) / 5 → (T + 40) / 5 ≤ 31 → ((rowOf T).val : Int) = (T + 40) / 5) ∧
      (T ≤ -36 ↔ (rowOf T).val = 0) ∧ (115 ≤ T ↔ (rowOf T).val = 31) ∧
      ∀ i : Fin 32, 1 ≤ i.val → i.val ≤ 30 →
        (rowOf T = i ↔ 5 * (i.val : Int) - 40 ≤ T ∧ T ≤ 5 * (i.val : Int) - 36)) ∧
  ∀ (l : Fin 16) (L : Lane) (v : Byte),
    (L.handOff l v).lane =
      { L with index := (L.handOff l v).lane.index, image := (L.handOff l v).lane.image } ∧
    (L.options.indexMode = .manual → (L.handOff l v).lane = L) ∧
    (L.options.indexMode = .auto → L.index = none → (L.handOff l v).lane.index = some (rowOf v.toInt))

/-- A reading of the temperature source at the Calibration Unit (R111, R113, R114, R115): in AUTO the index
moves to the reading's row when it is absent or the reading lies the hysteresis past the row's edge, with a
recall and, when index events are on, INDEX_CHANGE; otherwise, and in MANUAL, nothing changes. A recall gives
every address its cal value: the row value of the column of that target at the index, and absent where the
index or the column is. -/
def Obligations.ReadingMovesTheIndex : Prop :=
  ∀ (l : Fin 16) (L : Lane) (v : Byte) (j : Fin 32) (moves : Prop),
    j = rowOf v.toInt →
    (moves ↔ L.options.indexMode = .auto ∧
      match L.index with
      | none => True
      | some i =>
        (i < j ∧ 5 * ((i.val : Int) + 1) - 40 + (L.options.hysteresis : Int) ≤ v.toInt) ∨
          (j < i ∧ v.toInt ≤ 5 * (i.val : Int) - 41 - (L.options.hysteresis : Int))) →
    (¬ moves → L.handOff l v = { lane := L, events := [], done := [], waiters := [] }) ∧
    (moves →
      (L.handOff l v).lane =
        { L with index := some j, image := L.image.recall L.options.layerOrder L.table (some j) } ∧
      (L.handOff l v).done = [] ∧ (L.handOff l v).waiters = [] ∧
      (L.handOff l v).events =
        if L.options.indexEvents then [.indexChange l L.index (some j) .reading (some v)] else []) ∧
    ∀ (o : LayerOrder) (im : Image) (t : List Column) (index : Option (Fin 32)) (a : Nat),
      (a ∈ addresses → (im.recall o t index).get a =
        (im.get a).setLayers o (im.get a).base (im.get a).hold (calAt t index a)) ∧
      (index = none → calAt t index a = none) ∧
      ((∀ c ∈ t, c.target ≠ a) → calAt t index a = none) ∧
      ∀ (i : Fin 32) (c : Column), index = some i → (t.map (·.target)).Nodup → c ∈ t → c.target = a →
        calAt t index a = some c.rows[i]

/-- The conditions of a comparison, strict at the limits and false for an absent one, the last value, and the
flags under the latch options (R98, R99). -/
def Obligations.ComparisonSetsFlags : Prop :=
  ∀ (o : Options) (w : Watch) (v : Byte) (x : Int) (num : Byte → Int) (al ah wl wh : Bool),
    (∀ b, num b = if w.signed then b.toInt else (b.toNat : Int)) → x = num v →
    (al = true ↔ ∃ b, w.alarmLow = some b ∧ x < num b) →
    (ah = true ↔ ∃ b, w.alarmHigh = some b ∧ num b < x) →
    (wl = true ↔ ∃ b, w.warnLow = some b ∧ x < num b) →
    (wh = true ↔ ∃ b, w.warnHigh = some b ∧ num b < x) →
    w.compare o v = { w with
      last := some v,
      flags :=
        { al := if o.alarmLatch = .live then al else al || w.flags.al,
          ah := if o.alarmLatch = .live then ah else ah || w.flags.ah,
          wl := if o.warnLatch = .live then wl else wl || w.flags.wl,
          wh := if o.warnLatch = .live then wh else wh || w.flags.wh } }

/-- An event is taken by the Ring Unit in one of the four ways of R158, and changes nothing but the event
ring's pending list or the lost-event count (R158, R160). A cause is set, and exactly when the interrupt
condition rises one interrupt message is sent: at once when the Host Port has nothing asked of it, and
otherwise in its turn behind what has been asked for (R162, R163; that a transfer not yet started also goes
before it is the model's reading, notes/assumptions/6.md). -/
def Obligations.EventsAndCauses : Prop :=
  ∀ s : State,
    (∀ e : Event,
      (s.eq.mask.getLsbD e.code = true → s.raise e = s) ∧
      (s.eq.mask.getLsbD e.code = false → s.device ≠ .running →
        s.raise e = { s with eq := { s.eq with lost := min (s.eq.lost + 1) 65535 } }) ∧
      (s.eq.mask.getLsbD e.code = false → s.device = .running →
        s.eq.ring.size ≤ s.eq.ring.occupied + s.eq.pending.length →
        s.raise e = { s with eq := { s.eq with lost := min (s.eq.lost + 1) 65535 } }) ∧
      (s.eq.mask.getLsbD e.code = false → s.device = .running →
        s.eq.ring.occupied + s.eq.pending.length < s.eq.ring.size →
        s.raise e = { s with eq := { s.eq with pending := s.eq.pending ++ [e] } })) ∧
    ∀ (c : Causes) (u : State) (holds : Causes → Prop),
      u = { s with intState :=
        { completion := s.intState.completion || c.completion, event := s.intState.event || c.event,
          error := s.intState.error || c.error, state := s.intState.state || c.state } } →
      (∀ x, holds x ↔ x.completion = true ∧ s.intEnable.completion = true ∨
        x.event = true ∧ s.intEnable.event = true ∨ x.error = true ∧ s.intEnable.error = true ∨
        x.state = true ∧ s.intEnable.state = true) →
      (holds s.intState ∨ ¬ holds u.intState → s.setCauses c = u) ∧
      (¬ holds s.intState → holds u.intState →
        (s.transfers = [] → s.setCauses c = { u with messages := s.messages + 1 }) ∧
        ∀ x xs, s.transfers = x :: xs → x ≠ .message →
          s.setCauses c = { u with transfers := s.transfers ++ [.message] })

/-! ### Link frames and layouts -/

/-- A request carries start bit 0, the operation, six address bits, for a write eight data bits, most
significant first, and a parity bit that makes the ones after the start bit even (R69, Table 4-1, 11.9);
and the outcome of a frame (R70, R71). -/
def Obligations.FramesOfTheLink : Prop :=
  ∀ tx : Tx,
    tx.requestBits.length = (if tx.written.isSome then 17 else 9) ∧
    tx.requestBits[0]? = some false ∧
    tx.requestBits[1]? = some tx.written.isNone ∧
    (∀ i < 6, tx.requestBits[2 + i]? = some (tx.addr.testBit (5 - i))) ∧
    (∀ v, tx.written = some v → ∀ i < 8, tx.requestBits[8 + i]? = some (v.toNat.testBit (7 - i))) ∧
    (tx.requestBits.drop 1).count true % 2 = 0 ∧
    ∀ (window : Nat) (a : FrameAnswer),
      ((∀ n, a.startBit = some n → window < n) → settle window tx a = .failed .noResponse) ∧
      ∀ n, a.startBit = some n → n ≤ window →
        (a.code1 = false → a.code2 = true → settle window tx a = .failed .nak) ∧
        (a.code1 = a.code2 → settle window tx a = .failed .parity) ∧
        (a.code1 = true → a.code2 = false →
          (tx.written.isSome → settle window tx a = .done a.data) ∧
          (tx.written = none →
            settle window tx a =
              if ((List.range 8).countP (fun i => a.data.getLsbD i) + a.parity.toNat) % 2 = 0
              then .done a.data else .failed .parity))

/-- A block passes its checksum exactly when its 128 little-endian words sum to zero modulo 65536, and a block
that does not fails with CHECKSUM before any other check (R125, R174). One that passes it fails with BAD_BLOCK
for its kind, entry count or next block address, then with BAD_ENTRY for an entry (R125, R126, Tables 7-1 and
11-9); and a block that passes is staged entry by entry, the later entry deciding, or fails with TABLE_FULL
for a ninth column (R127). -/
def Obligations.ChecksumComesFirst : Prop :=
  ∀ (position : Nat) (bs : List Byte) (st : Staging) (sum kind count most size : Nat)
    (start target : Nat → Nat) (rec : Nat → WatchRecord) (header entries : Prop),
    sum = ((List.range 128).map fun k =>
      (bs.getD (2 * k) 0).toNat + 256 * (bs.getD (2 * k + 1) 0).toNat).sum % 65536 →
    kind = (byteAt bs 0).toNat → count = (byteAt bs 1).toNat →
    most = (if kind = 1 then 60 else if kind = 2 then 4 else 8) →
    size = (if kind = 1 then 4 else if kind = 2 then 36 else 12) →
    (∀ i, start i = 16 + size * i) → (∀ i, target i = (byteAt bs (start i)).toNat) →
    (∀ i, rec i =
      { index := byteAt bs (start i), state := byteAt bs (start i + 1),
        address := byteAt bs (start i + 2), options := byteAt bs (start i + 3),
        presence := byteAt bs (start i + 4), alarmLow := byteAt bs (start i + 5),
        alarmHigh := byteAt bs (start i + 6), warnLow := byteAt bs (start i + 7),
        warnHigh := byteAt bs (start i + 8) }) →
    (header ↔ 1 ≤ kind ∧ kind ≤ 3 ∧ 1 ≤ count ∧ count ≤ most ∧ (le64 bs 8).toNat % 64 = 0) →
    (entries ↔ ∀ i < count,
      (kind = 1 → 1 ≤ target i ∧ target i ≤ 63 ∧ (byteAt bs (start i + 2)).toNat ≤ 1) ∧
      (kind = 2 → 1 ≤ target i ∧ target i ≤ 63 ∧ (∀ c ∈ st.columns, c.column.target ≠ target i) ∧
        ∀ j < i, target j ≠ target i) ∧
      (kind = 3 → (readWatch (rec i)).isSome = true)) →
    (checkBlock position bs st = .error .checksum ↔ sum ≠ 0) ∧
    (sum = 0 → ¬ header → checkBlock position bs st = .error .badBlock) ∧
    (sum = 0 → header → ¬ entries → checkBlock position bs st = .error .badEntry) ∧
    (sum = 0 → header → entries → st.columns.length ≤ 8 →
      (kind = 1 → ∃ base : Vector (Option BaseAction) 63,
        checkBlock position bs st = .ok { st with base := base } ∧
        ∀ x : Fin 63,
          (∀ i < count, target i = x.val + 1 → (∀ j < count, i < j → target j ≠ x.val + 1) →
            base[x] = some (if byteAt bs (start i + 2) = 0#8 then .set (byteAt bs (start i + 1))
              else .clear)) ∧
          ((∀ i < count, target i ≠ x.val + 1) → base[x] = st.base[x])) ∧
      (kind = 2 →
        (8 < st.columns.length + count → checkBlock position bs st = .error .tableFull) ∧
        (st.columns.length + count ≤ 8 → ∃ added : List StagedColumn,
          checkBlock position bs st = .ok { st with columns := st.columns ++ added } ∧
          added.length = count ∧
          ∀ (i : Nat) (c : StagedColumn), added[i]? = some c →
            c.block = position ∧ c.column.target = target i ∧
              ∀ k : Fin 32, c.column.rows[k] = byteAt bs (start i + 4 + k.val))) ∧
      (kind = 3 → ∃ watches : Vector (Option StagedWatch) 8,
        checkBlock position bs st = .ok { st with watches := watches } ∧
        ∀ x : Fin 8,
          (∀ i < count, ∀ w, readWatch (rec i) = some (x, w) →
            (∀ j < count, i < j → target j ≠ x.val) →
            watches[x] = some { watch := w, block := position }) ∧
          ((∀ i < count, target i ≠ x.val) → watches[x] = st.watches[x])))

/-- What the part writes, whole (R173, R175, Tables 11-5 to 11-8 and 11-10): completion records, event records
with their content, the lane report, and their codes and result words. That bits and bytes which no table
names are 0 (completion bytes 2 and 15, event byte 15, report entry bytes 6 and 7, watch slot bytes 9 to 11, 13
and 14, column slot bytes 1 to 3) is the model's choice (notes/assumptions/30.md). -/
def Obligations.RecordsHaveTheirLayout : Prop :=
  (∀ (id : CmdId) (st : Status) (d : Option Detail) (lane : Option Byte) (head : Nat)
      (result : Option Word) (phase : Bool), head < 1024 →
    let bs := completionRecord id st d lane head result phase
    bs.length = 16 ∧ le16 bs 0 = id.tag ∧ (byteAt bs 2).toNat = id.ring.val ∧
      (byteAt bs 3).toNat = statusCode st ∧ (byteAt bs 4).toNat = detailCode d ∧
      byteAt bs 5 = lane.getD 0xFF#8 ∧ (le16 bs 6).toNat = head ∧
      le16 bs 10 ++ le16 bs 8 = result.getD 0 ∧
      byteAt bs 12 = 0 ∧ byteAt bs 13 = 0 ∧ byteAt bs 14 = 0 ∧
      (byteAt bs 15).toNat = phase.toNat + 2 * result.isSome.toNat) ∧
  (∀ (e : Event) (lost : Nat) (phase : Bool) (content : List Nat), lost ≤ 65535 →
    content = (match e with
      | .chipRestart _ count found queue => [count, laneStateCode found, queue]
      | .linkFault _ left kind addr f => [laneStateCode left, txKindCode kind, addr, failureCode f]
      | .writeRefused _ addr v reason readBack =>
        [addr, v.toNat, if reason = .nak then 1 else 2, (readBack.getD 0).toNat, readBack.isSome.toNat]
      | .watchRaise _ i addr flag v => [i.val, addr, flagCode flag, v.toNat]
      | .watchFall _ i addr flag v => [i.val, addr, flagCode flag, v.toNat]
      | .watchRefused _ i addr => [i.val, addr]
      | .indexChange _ old new cause t =>
        [(old.map (·.val)).getD 0xFF, (new.map (·.val)).getD 0xFF, if cause = .reading then 0 else 1,
         (t.getD 0).toNat, t.isSome.toNat]
      | .ringError q cause => [q.val, if cause = .postRange then 0 else 1]) →
    let bs := eventRecord e lost phase
    bs.length = 16 ∧ (byteAt bs 0).toNat = e.code ∧
      (byteAt bs 1).toNat = (e.lane.map (·.val)).getD 0xFF ∧ (le16 bs 2).toNat = lost ∧
      (∀ i < 10, byteAt bs (4 + i) = BitVec.ofNat 8 (content.getD i 0)) ∧
      byteAt bs 14 = 0 ∧ (byteAt bs 15).toNat = phase.toNat) ∧
  (∀ (L : Lane) (p : Option Port) (bs : List Byte) (columns : List Column)
      (entry : Entry → List Nat) (watch : Nat → Watch → List Nat),
    bs = reportBytes L p → L.image.queue.length ≤ 63 → L.table.length ≤ 8 →
    columns.Perm L.table → columns.Pairwise (fun c d => c.target < d.target) →
    (∀ e, entry e =
      [(e.base.getD 0).toNat, (e.hold.getD 0).toNat, (e.cal.getD 0).toNat, (e.intended.getD 0).toNat,
       (e.applied.getD 0).toNat, (e.inFlight.getD 0).toNat,
       e.base.isSome.toNat + 2 * e.hold.isSome.toNat + 4 * e.cal.isSome.toNat +
         8 * e.intended.isSome.toNat + 16 * e.applied.isSome.toNat + 32 * e.inFlight.isSome.toNat,
       entryStateCode e.state + 8 * e.attempts + 32 * reasonCode e.refusal]) →
    (∀ i w, watch i w =
      [i, watchStateCode w.state, w.address,
       w.signed.toNat + 2 * w.tempSource.toNat + 4 * w.eventEnable.toNat,
       w.alarmLow.isSome.toNat + 2 * w.alarmHigh.isSome.toNat + 4 * w.warnLow.isSome.toNat +
         8 * w.warnHigh.isSome.toNat,
       (w.alarmLow.getD 0).toNat, (w.alarmHigh.getD 0).toNat, (w.warnLow.getD 0).toNat,
       (w.warnHigh.getD 0).toNat, 0, 0, 0, (w.last.getD 0).toNat, w.last.isSome.toNat,
       w.flags.al.toNat + 2 * w.flags.ah.toNat + 4 * w.flags.wl.toNat + 8 * w.flags.wh.toNat, 0]) →
    bs.length = 1024 ∧ (byteAt bs 0).toNat = laneStateCode L.state ∧
    (byteAt bs 1).toNat = (L.binding.map (·.port.val)).getD 0xFF ∧
    (byteAt bs 2).toNat = (L.binding.map (·.select.val)).getD 0xFF ∧
    (byteAt bs 3).toNat = (match L.purpose with
      | some .attach => 0
      | some .resume => 1
      | none => 0xFF) ∧
    le16 bs 4 = BitVec.ofNat 16 L.options.pollPeriod ∧
    (∀ i < 8, byteAt bs (6 + i) = BitVec.ofNat 8
      ([L.options.retryLimit, L.options.verify.toNat,
        if L.options.layerOrder = .holdFirst then 0 else 1, L.options.hysteresis,
        if L.options.indexMode = .auto then 0 else 1, if L.options.alarmLatch = .live then 0 else 1,
        if L.options.warnLatch = .live then 0 else 1, L.options.indexEvents.toNat].getD i 0)) ∧
    (byteAt bs 14).toNat = (L.index.map (·.val)).getD 0xFF ∧
    byteAt bs 15 = BitVec.ofNat 8 L.restartCount ∧ le16 bs 16 = BitVec.ofNat 16 L.overrunCount ∧
    byteAt bs 18 = BitVec.ofNat 8 L.waiters.length ∧
    (byteAt bs 19).toNat = L.image.queue.length ∧ (byteAt bs 20).toNat = L.table.length ∧
    byteAt bs 21 = BitVec.ofNat 8 ((p.map fun x => x.enabled.toNat).getD 0) ∧
    byteAt bs 22 = BitVec.ofNat 8 ((p.map (·.bitRate)).getD 0) ∧
    byteAt bs 23 = BitVec.ofNat 8 ((p.map (·.window)).getD 0) ∧
    (∀ i < 8, byteAt bs (24 + i) = 0) ∧
    (∀ i < 64, byteAt bs (32 + i) = BitVec.ofNat 8 (L.image.queue.getD i 0)) ∧
    (∀ a ∈ addresses, ∀ i < 8,
      byteAt bs (96 + 8 * (a - 1) + i) = BitVec.ofNat 8 ((entry (L.image.get a)).getD i 0)) ∧
    (∀ j : Fin 8, ∀ i < 16,
      byteAt bs (600 + 16 * j.val + i) = BitVec.ofNat 8 ((watch j.val L.watches[j]).getD i 0)) ∧
    (∀ (k : Nat) (c : Column), columns[k]? = some c →
      byteAt bs (728 + 36 * k) = BitVec.ofNat 8 c.target ∧
      (∀ i < 3, byteAt bs (728 + 36 * k + 1 + i) = 0) ∧
      ∀ i : Fin 32, byteAt bs (728 + 36 * k + 4 + i.val) = c.rows[i]) ∧
    ∀ n, 728 + 36 * L.table.length ≤ n → byteAt bs n = 0) ∧
  (∀ (b0 b1 b2 b3 : Nat), b0 < 256 → b1 < 256 → b2 < 256 → b3 < 256 →
    (resultWord b0 b1 b2 b3).toNat = b0 + 256 * b1 + 65536 * b2 + 16777216 * b3) ∧
  (∀ (o : Options) (w : Word), w = optionsResult o → o.Ranged →
    (w.extractLsb' 0 10).toNat = o.pollPeriod ∧ (w.extractLsb' 10 2).toNat = o.retryLimit ∧
    w.getLsbD 12 = o.verify ∧ (w.getLsbD 13 = true ↔ o.layerOrder = .calFirst) ∧
    (w.extractLsb' 14 3).toNat = o.hysteresis ∧ (w.getLsbD 17 = true ↔ o.indexMode = .manual) ∧
    (w.getLsbD 18 = true ↔ o.alarmLatch = .latched) ∧ (w.getLsbD 19 = true ↔ o.warnLatch = .latched) ∧
    w.getLsbD 20 = o.indexEvents) ∧
  (∀ w : Watch, watchSetResult w = resultWord (watchStateCode w.state) w.address
    (w.signed.toNat + 2 * w.tempSource.toNat + 4 * w.eventEnable.toNat)
    (w.alarmLow.isSome.toNat + 2 * w.alarmHigh.isSome.toNat + 4 * w.warnLow.isSome.toNat +
      8 * w.warnHigh.isSome.toNat)) ∧
  (∀ (ws : Vector Watch 8) (i : Fin 8),
    (flagsResult ws).getLsbD (4 * i.val) = ws[i].flags.al ∧
    (flagsResult ws).getLsbD (4 * i.val + 1) = ws[i].flags.ah ∧
    (flagsResult ws).getLsbD (4 * i.val + 2) = ws[i].flags.wl ∧
    (flagsResult ws).getLsbD (4 * i.val + 3) = ws[i].flags.wh) ∧
  [Status.ok, .unknownKind, .rights, .dupTag, .range, .state, .conflict, .busy, .nak, .linkFault,
    .laneFault, .chainError, .hostMemory, .aborted, .timeout].map statusCode = List.range 15 ∧
  [none, some (.outcome .nak), some (.outcome .noResponse), some (.outcome .parity),
    some (.chain .checksum), some (.chain .badBlock), some (.chain .badEntry), some (.chain .tooLong),
    some (.chain .tableFull)].map detailCode = List.range 9 ∧
  [Failure.nak, .noResponse, .parity].map failureCode = [1, 2, 3] ∧
  [LaneState.detached, .probing, .active, .quiescing, .quiesced, .faulted, .detaching].map
    laneStateCode = List.range 7 ∧
  [EntryState.unmanaged, .clean, .dirty, .pending, .refused].map entryStateCode = List.range 5 ∧
  [none, some RefusalReason.nak, some .mismatch].map reasonCode = List.range 3 ∧
  [WatchState.empty, .active, .suspended].map watchStateCode = List.range 3 ∧
  [WatchFlag.al, .ah, .wl, .wh].map flagCode = List.range 4 ∧
  [TxKind.check, .ack, .wb, .verify, .poll, .directRead, .directWrite].map txKindCode = List.range 7 ∧
  ∀ (l : Fin 16) (q : Fin 4) (i : Fin 8) (n a : Nat) (st : LaneState) (k : TxKind) (f : Failure)
    (v : Byte) (t : Option Byte) (r : RefusalReason) (g : WatchFlag) (x y : Option (Fin 32))
    (c : IndexCause) (d : RingErrorCause),
    [Event.chipRestart l n st a, .linkFault l st k a f, .writeRefused l a v r t,
      .watchRaise l i a g v, .watchFall l i a g v, .watchRefused l i a, .indexChange l x y c t,
      .ringError q d].map Event.code = List.range 8 ∧
    [Event.chipRestart l n st a, .linkFault l st k a f, .writeRefused l a v r t,
      .watchRaise l i a g v, .watchFall l i a g v, .watchRefused l i a, .indexChange l x y c t,
      .ringError q d].map Event.lane =
      [some l, some l, some l, some l, some l, some l, some l, none]

/-- The registers read as Table 11-1 lays them out (R164, R165): STATUS with the codes of its fields and its
other bits 0, IDENT, INT_ENABLE with its bits past 3 at 0, SETUP_BASE as two words with its six lowest bits 0,
and the write-only registers as 0. -/
def Obligations.StatusReadsItsFields : Prop :=
  ∀ s : State,
    s.readRegister .status = s.statusWord ∧
    (s.statusWord.extractLsb' 0 3).toNat = deviceCode s.device ∧
    (s.statusWord.extractLsb' 3 2).toNat = errorCodeNat s.errorCode ∧
    s.statusWord.getLsbD 5 = s.badPost ∧ s.statusWord.getLsbD 6 = s.badReturn ∧
    (∀ q : Fin 4, (s.statusWord.extractLsb' (8 + 2 * q.val) 2).toNat = ringStateCode s.rings[q].state) ∧
    s.statusWord.getLsbD 16 = s.intState.completion ∧ s.statusWord.getLsbD 17 = s.intState.event ∧
    s.statusWord.getLsbD 18 = s.intState.error ∧ s.statusWord.getLsbD 19 = s.intState.state ∧
    s.readRegister .ident = 0x00016240#32 ∧ s.readRegister .control = 0 ∧
    s.readRegister .post = 0 ∧ s.readRegister .ringReturn = 0 ∧
    [DeviceState.halted, .starting, .running, .stopping, .resetting].map deviceCode = List.range 5 ∧
    [ErrorCode.none, .setupRead, .setupInvalid, .hostWrite].map errorCodeNat = List.range 4 ∧
    [RingState.off, .active, .error].map ringStateCode = List.range 3 ∧
    s.statusWord.getLsbD 7 = false ∧ (∀ n, 20 ≤ n → s.statusWord.getLsbD n = false) ∧
    (s.readRegister .intEnable).getLsbD 0 = s.intEnable.completion ∧
    (s.readRegister .intEnable).getLsbD 1 = s.intEnable.event ∧
    (s.readRegister .intEnable).getLsbD 2 = s.intEnable.error ∧
    (s.readRegister .intEnable).getLsbD 3 = s.intEnable.state ∧
    (∀ n, 4 ≤ n → (s.readRegister .intEnable).getLsbD n = false) ∧
    (s.readRegister .setupLow).toNat = s.setupBase.toNat % 2 ^ 32 ∧
    (s.readRegister .setupHigh).toNat = s.setupBase.toNat / 2 ^ 32 ∧
    (CountInv s → ∀ n, n < 6 → (s.readRegister .setupLow).getLsbD n = false)

/-! ### Acceptance -/

/-- NOP (R153), from a ring of either rights and whatever waits: it completes OK at its entry into the table,
behind every completion on the finish list, with the number of table entries, NOP included; nothing else
changes, and its completion record names no lane. When
the model takes a command's row at all (`intakeOpen`) is its choice (notes/assumptions/1.md). -/
def Obligations.NopCompletes : Prop :=
  ∀ (ring : Fin 4) (tag : Tag) (s : State) (r : Request),
    r = { id := { ring := ring, tag := tag }, lane := 0, cmd := .nop } →
    s.intakeOpen ring = true → (∀ e ∈ s.table, e.id ≠ r.id) →
    exec (.nop ring tag) s =
      .next (s.completed r .ok (some (resultWord (s.table.length + 1) 0 0 0))) ∧
    byteAt ((s.completed r .ok (some (resultWord (s.table.length + 1) 0 0 0))).completionOf
      (.entry r.id)) 5 = 0xFF#8

/-- Checks 2 to 4 of Table 8-1 and the lane barrier (R142 to R144): a record whose ring may not issue its kind
is refused with RIGHTS, one whose ring and tag are outstanding with DUP_TAG, and neither takes a table entry;
a lane field above 15 finishes with RANGE; a command waits behind an earlier entry of its ring for its lane
that is WAITING, or ACTIVE and of a barrier kind. When the model takes a command's row at all (`intakeOpen`)
is its choice (notes/assumptions/1.md). -/
def Obligations.AcceptanceAndBarrier : Prop :=
  ∀ (r : Request) (s : State), s.intakeOpen r.id.ring = true →
    (s.rings[r.id.ring].rights = .observe →
      r.cmd ≠ .nop → (∀ n, r.cmd ≠ .laneSync n) → (∀ a, r.cmd ≠ .readDirect a) →
      (∀ b, r.cmd ≠ .laneReport b) →
      exec r.row s =
        .next { s with finishList := s.finishList ++ [.refusal r.id (some r.lane) .rights] }) ∧
    (permits s.rings[r.id.ring].rights r.cmd = true → (∃ e ∈ s.table, e.id = r.id) →
      exec r.row s = .next { s with finishList := s.finishList ++
        [.refusal r.id (if r.cmd = .nop then none else some r.lane) .dupTag] }) ∧
    ∀ u : State,
      permits s.rings[r.id.ring].rights r.cmd = true → (∀ e ∈ s.table, e.id ≠ r.id) → r.cmd ≠ .nop →
      (15 < r.lane.toNat ∧ u = s.completed r .range none ∨
        r.lane.toNat ≤ 15 ∧ u = { s with table := s.table ++ [r.entry .waiting] } ∧
          ∃ e ∈ s.table, e.id.ring = r.id.ring ∧ e.cmd ≠ .nop ∧ e.lane = r.lane ∧
            (e.stage = .waiting ∨ e.stage = .active ∧ e.cmd.barrier = true)) →
      exec r.row s = .next (if r.cmd = .laneDetach then u.release else u)

/-- The release at a happening (R144, R145): with nothing to release it changes nothing; otherwise the first
WAITING entry in fetch order that no earlier one holds back activates, with its command's effect, and the
release goes on from what that left; and after it no WAITING command is left that nothing holds back. The
order across groups of different rings or lanes is the model's choice (notes/assumptions/8.md). -/
def Obligations.ReleaseLeavesNoneReleasable : Prop :=
  ∀ (s : State) (held : List OctEntry → OctEntry → Prop),
    (∀ before e, held before e ↔ e.cmd ≠ .nop ∧ ∃ f ∈ before, f.id.ring = e.id.ring ∧ f.cmd ≠ .nop ∧
      f.lane = e.lane ∧ (f.stage = .waiting ∨ f.stage = .active ∧ f.cmd.barrier = true)) →
    (∀ before after e, s.release.table = before ++ e :: after → e.stage = .waiting → held before e) ∧
    ((∀ before after e, s.table = before ++ e :: after → e.stage = .waiting → held before e) →
      s.release = s) ∧
    ∀ before after e, s.table = before ++ e :: after → e.stage = .waiting → ¬ held before e →
      (∀ earlier later f, before = earlier ++ f :: later → f.stage = .waiting → held earlier f) →
      s.release = (State.runCmd e.id e.lane e.cmd
        { s with table := s.table.map fun f =>
            if f.id = e.id then { f with stage := .active } else f }).release

/-- The bytes of a record or block as they are read (R173, little-endian): the setup block (Table 11-2), and the
kind code and parameters of a submission record (Tables 11-3 and 11-4). The option block over the options that
stand (Table 3-3, R173): 0xFFFF and 0xFF keep an option, any other value is the option or makes the command
fail with RANGE; and a watch record as it is read and checked (R90, R102, R103, R126, Table 11-9). -/
def Obligations.ParametersAreRead : Prop :=
  (∀ (bs : List Byte) (n : Nat),
    byteAt bs n = bs.getD n 0 ∧
    (le16 bs n).toNat = (byteAt bs n).toNat + 256 * (byteAt bs (n + 1)).toNat ∧
    (le64 bs n).toNat = (le16 bs n).toNat + 2 ^ 16 * (le16 bs (n + 2)).toNat +
      2 ^ 32 * (le16 bs (n + 4)).toNat + 2 ^ 48 * (le16 bs (n + 6)).toNat) ∧
  (∀ bs : List Byte,
    (∀ q : Fin 4, setupRing bs q =
      { base := le64 bs (16 * q.val), size := (le16 bs (16 * q.val + 8)).toNat,
        on := (byteAt bs (16 * q.val + 10)).getLsbD 0, rights := byteAt bs (16 * q.val + 11) }) ∧
    ((setupCq bs).base = le64 bs 64 ∧ (setupCq bs).size = (le16 bs 72).toNat ∧
      (setupCq bs).on = (byteAt bs 74).getLsbD 0) ∧
    ((setupEq bs).base = le64 bs 80 ∧ (setupEq bs).size = (le16 bs 88).toNat ∧
      (setupEq bs).on = (byteAt bs 90).getLsbD 0) ∧
    (∀ p : Fin 4, setupPort bs p =
      { enabled := (byteAt bs (96 + 4 * p.val)).getLsbD 0,
        bitRate := (byteAt bs (96 + 4 * p.val + 1)).toNat,
        window := (byteAt bs (96 + 4 * p.val + 2)).toNat }) ∧
    setupMask bs = le16 bs 112) ∧
  (∀ (bs : List Byte) (opts : OptionBlock) (w : WatchRecord) (kind : Nat),
    kind = (byteAt bs 0).toNat →
    opts = { pollPeriod := le16 bs 6, retryLimit := byteAt bs 8, verify := byteAt bs 9,
             layerOrder := byteAt bs 10, hysteresis := byteAt bs 11, indexMode := byteAt bs 12,
             alarmLatch := byteAt bs 13, warnLatch := byteAt bs 14, indexEvents := byteAt bs 15 } →
    w = { index := byteAt bs 4, state := byteAt bs 5, address := byteAt bs 6, options := byteAt bs 7,
          presence := byteAt bs 8, alarmLow := byteAt bs 9, alarmHigh := byteAt bs 10,
          warnLow := byteAt bs 11, warnHigh := byteAt bs 12 } →
    readTag bs = le16 bs 2 ∧ readLane bs = byteAt bs 1 ∧
    (kind = 0x00 → readCmd bs = some .nop) ∧
    (kind = 0x01 → readCmd bs = some (.laneAttach (byteAt bs 4) (byteAt bs 5) opts)) ∧
    (kind = 0x02 → readCmd bs = some .laneDetach) ∧
    (kind = 0x03 → readCmd bs = some (.laneSet opts)) ∧
    (kind = 0x04 → readCmd bs = some .laneQuiesce) ∧
    (kind = 0x05 → readCmd bs = some .laneResume) ∧
    (kind = 0x06 → readCmd bs = some (.laneSync (le16 bs 4))) ∧
    (kind = 0x10 → readCmd bs =
      some (.regSet (byteAt bs 4) (byteAt bs 5) (byteAt bs 6) ((byteAt bs 7).getLsbD 0))) ∧
    (kind = 0x11 → readCmd bs = some (.readDirect (byteAt bs 4))) ∧
    (kind = 0x12 → readCmd bs = some (.writeDirect (byteAt bs 4) (byteAt bs 5))) ∧
    (kind = 0x20 → readCmd bs = some (.watchSet w)) ∧
    (kind = 0x21 → readCmd bs = some (.flagsClear (byteAt bs 4) (byteAt bs 5))) ∧
    (kind = 0x30 → readCmd bs = some (.calIndex (byteAt bs 4))) ∧
    (kind = 0x31 → readCmd bs = some .calClear) ∧
    (kind = 0x40 → readCmd bs = some (.chainLoad (byteAt bs 4) (le64 bs 8))) ∧
    (kind = 0x41 → readCmd bs = some (.laneReport (le64 bs 8))) ∧
    (kind ∉ [0x00, 0x01, 0x02, 0x03, 0x04, 0x05, 0x06, 0x10, 0x11, 0x12, 0x20, 0x21, 0x30, 0x31,
        0x40, 0x41] → readCmd bs = none)) ∧
  (∀ (keep o : Options) (b : OptionBlock),
     optionsOver keep b = some o ↔
       (b.pollPeriod = 0xFFFF#16 ∧ o.pollPeriod = keep.pollPeriod ∨
         b.pollPeriod.toNat ≤ 1000 ∧ o.pollPeriod = b.pollPeriod.toNat) ∧
       (b.retryLimit = 0xFF#8 ∧ o.retryLimit = keep.retryLimit ∨
         b.retryLimit.toNat ≤ 3 ∧ o.retryLimit = b.retryLimit.toNat) ∧
       (b.verify = 0xFF#8 ∧ o.verify = keep.verify ∨ b.verify = 0#8 ∧ o.verify = false ∨
         b.verify = 1#8 ∧ o.verify = true) ∧
       (b.layerOrder = 0xFF#8 ∧ o.layerOrder = keep.layerOrder ∨
         b.layerOrder = 0#8 ∧ o.layerOrder = .holdFirst ∨
         b.layerOrder = 1#8 ∧ o.layerOrder = .calFirst) ∧
       (b.hysteresis = 0xFF#8 ∧ o.hysteresis = keep.hysteresis ∨
         b.hysteresis.toNat ≤ 4 ∧ o.hysteresis = b.hysteresis.toNat) ∧
       (b.indexMode = 0xFF#8 ∧ o.indexMode = keep.indexMode ∨
         b.indexMode = 0#8 ∧ o.indexMode = .auto ∨ b.indexMode = 1#8 ∧ o.indexMode = .manual) ∧
       (b.alarmLatch = 0xFF#8 ∧ o.alarmLatch = keep.alarmLatch ∨
         b.alarmLatch = 0#8 ∧ o.alarmLatch = .live ∨ b.alarmLatch = 1#8 ∧ o.alarmLatch = .latched) ∧
       (b.warnLatch = 0xFF#8 ∧ o.warnLatch = keep.warnLatch ∨
         b.warnLatch = 0#8 ∧ o.warnLatch = .live ∨ b.warnLatch = 1#8 ∧ o.warnLatch = .latched) ∧
       (b.indexEvents = 0xFF#8 ∧ o.indexEvents = keep.indexEvents ∨
         b.indexEvents = 0#8 ∧ o.indexEvents = false ∨ b.indexEvents = 1#8 ∧ o.indexEvents = true)) ∧
  ∀ (rec : WatchRecord) (i : Fin 8) (w : Watch) (num : Byte → Int) (limit : Nat → Byte → Option Byte),
    (∀ b, num b = if rec.options.getLsbD 0 then b.toInt else (b.toNat : Int)) →
    (∀ n b, limit n b = if rec.presence.getLsbD n then some b else none) →
    (readWatch rec = some (i, w) ↔
      rec.index.toNat = i.val ∧
      (rec.state = 0#8 ∧ w = Watch.reset ∨
       rec.state = 1#8 ∧ rec.address.toNat ≤ 63 ∧
        (rec.presence.getLsbD 0 = true → rec.presence.getLsbD 1 = true →
          num rec.alarmLow ≤ num rec.alarmHigh) ∧
        (rec.presence.getLsbD 2 = true → rec.presence.getLsbD 3 = true →
          num rec.warnLow ≤ num rec.warnHigh) ∧
        (rec.options.getLsbD 1 = true → rec.options.getLsbD 0 = true) ∧
        w = { state := .active, address := rec.address.toNat, signed := rec.options.getLsbD 0,
              tempSource := rec.options.getLsbD 1, eventEnable := rec.options.getLsbD 2,
              alarmLow := limit 0 rec.alarmLow, alarmHigh := limit 1 rec.alarmHigh,
              warnLow := limit 2 rec.warnLow, warnHigh := limit 3 rec.warnHigh,
              last := none, flags := Flags.clear }))

/-! ### Lane commands -/

/-- LANE_ATTACH (R47 to R49): refused with RANGE, STATE or CONFLICT in this order; otherwise the lane becomes
PROBING with its binding and options, and the command stays ACTIVE. -/
def Obligations.AttachBeginsAProbe : Prop :=
  ∀ (ring : Fin 4) (tag : Tag) (lane port select : Byte) (opts : OptionBlock) (s : State) (l : Fin 16)
    (r : Request) (inRange : Prop),
    r = { id := { ring := ring, tag := tag }, lane := lane, cmd := .laneAttach port select opts } →
    Activates s r l →
    (inRange ↔ (optionsOver Options.default opts).isSome ∧ select.toNat ≤ 3 ∧
      ∃ p : Fin 4, port.toNat = p.val ∧ s.ports[p].enabled = true) →
    (¬ inRange →
      exec (.laneAttach ring tag lane port select opts) s = .next (s.completed r .range none)) ∧
    (inRange → s.lanes[l].state ≠ .detached →
      exec (.laneAttach ring tag lane port select opts) s = .next (s.completed r .state none)) ∧
    (inRange → s.lanes[l].state = .detached →
      (∃ m : Fin 16, s.lanes[m].state ≠ .detached ∧ ∃ b : Binding, s.lanes[m].binding = some b ∧
        b.port.val = port.toNat ∧ b.select.val = select.toNat) →
      exec (.laneAttach ring tag lane port select opts) s = .next (s.completed r .conflict none)) ∧
    ∀ (b : Binding) (o : Options), inRange → s.lanes[l].state = .detached →
      b.port.val = port.toNat → b.select.val = select.toNat →
      optionsOver Options.default opts = some o →
      (∀ m : Fin 16, s.lanes[m].state ≠ .detached → s.lanes[m].binding ≠ some b) →
      exec (.laneAttach ring tag lane port select opts) s =
        .next ((s.setLane l
          { s.lanes[l] with
            state := .probing, binding := some b, options := o, purpose := some .attach,
            transition := some r.id, checkDue := true, pollTimer := 0 }).opened r)

/-- LANE_DETACH of a lane that is DETACHED or DETACHING, and of an attached lane without and with a frame in
flight (R62 to R64). The lane's loads leave the loader queue and the others keep their order; an active load
of the lane ends, its started read is let end as the discarded one, and without a started read the next load
is taken at once; another lane's active load stays (R122, R135). What the finished commands held back is
released after `m` (R145; the order of the release is notes/assumptions/8.md's). -/
def Obligations.DetachClearsOrWaits : Prop :=
  ∀ (ring : Fin 4) (tag : Tag) (lane : Byte) (s : State) (l : Fin 16) (r : Request)
    (aborted : List CmdId) (kept : List Load) (left : List Transfer),
    r = { id := { ring := ring, tag := tag }, lane := lane, cmd := .laneDetach } →
    Activates s r l →
    aborted = s.lanes[l].transition.toList ++ s.lanes[l].waiters.map (·.id) ++
      s.lanes[l].directs.map (·.id) ++
      ((s.loader.active.filter fun a => decide (a.lane = l)).map (·.id)).toList ++
      (s.loader.queue.filter fun q => decide (q.lane = l)).map (·.id) →
    aborted.Nodup → (∀ i ∈ aborted, ∃ e ∈ s.table, e.id = i ∧ e.finished = false) →
    kept = (s.loader.queue.filter fun q => decide (q.lane ≠ l)) →
    left = (s.transfers.filter fun x => x.started || !x.isBlockRead) →
    (s.lanes[l].state = .detached →
      exec (.laneDetach ring tag lane) s = .next (s.completed r .ok none).release) ∧
    (s.lanes[l].state = .detaching →
      exec (.laneDetach ring tag lane) s = .next (s.completed r .state none).release) ∧
    (s.lanes[l].state ≠ .detached → s.lanes[l].state ≠ .detaching →
      ∃ m : State, exec (.laneDetach ring tag lane) s = .next m.release ∧
        (∀ k : Fin 16, k ≠ l → m.lanes[k] = s.lanes[k]) ∧ m.ports = s.ports ∧ m.rings = s.rings ∧
        m.eq = s.eq ∧ m.device = s.device ∧ m.pending = s.pending ∧
        (∀ q ∈ m.loader.queue, q.lane ≠ l) ∧ (∀ a ∈ m.loader.active, a.lane ≠ l) ∧
        ((∀ a ∈ s.loader.active, a.lane ≠ l) →
          m.loader = { s.loader with queue := kept } ∧ m.transfers = s.transfers ∧
            m.messages = s.messages) ∧
        (∀ a, s.loader.active = some a → a.lane = l →
          ((∃ x, Transfer.blockRead x true ∈ s.transfers) →
            m.loader = { queue := kept, active := none, discarded := true, staging := Staging.reset } ∧
              m.transfers = s.transfers ∧ m.messages = s.messages) ∧
          ((∀ x, Transfer.blockRead x true ∉ s.transfers) →
            m.messages = (s.afterTransfer left).messages ∧
            (kept = [] →
              m.transfers = (s.afterTransfer left).transfers ∧
              m.loader = { s.loader with queue := [], active := none, staging := Staging.reset }) ∧
            ∀ q qs, kept = q :: qs →
              m.transfers = (s.afterTransfer left).transfers ++ [.blockRead q.first false] ∧
              m.loader = { s.loader with
                queue := qs, staging := Staging.reset,
                active := some { id := q.id, lane := q.lane, mode := q.mode, stage := .read q.first,
                                 position := 1, blocksRead := 0 } })) ∧
        (∀ i ∈ aborted, ∃ e ∈ m.table, e.id = i ∧ ∃ res, e.stage = .finished .aborted none res) ∧
        (s.inFlight l = none → m.lanes[l] = Lane.reset ∧
          r.entry (.finished .ok none none) ∈ m.table ∧
          m.finishList = s.finishList ++ aborted.map .entry ++ [.entry r.id]) ∧
        (s.inFlight l ≠ none →
          m.lanes[l].state = .detaching ∧ m.lanes[l].binding = s.lanes[l].binding ∧
          m.lanes[l].transition = some r.id ∧ m.lanes[l].image = s.lanes[l].image ∧
          m.lanes[l].waiters = [] ∧ m.lanes[l].directs = [] ∧ m.lanes[l].checkDue = false ∧
          m.lanes[l].ackDue = false ∧ m.lanes[l].retryDue = none ∧ m.lanes[l].verifyDue = false ∧
          m.lanes[l].round = none ∧ r.entry .active ∈ m.table ∧
          m.finishList = s.finishList ++ aborted.map .entry))

/-- LANE_SET (R7, R65): an accepted one sets the named options in one happening, takes every entry afresh on a
changed layer order and restarts the poll timer on a changed poll period. Waiters that complete with it stand
on the finish list as notes/assumptions/9.md says. -/
def Obligations.LaneSetChangesOptions : Prop :=
  ∀ (ring : Fin 4) (tag : Tag) (lane : Byte) (opts : OptionBlock) (s : State) (l : Fin 16) (L : Lane)
    (r : Request),
    r = { id := { ring := ring, tag := tag }, lane := lane, cmd := .laneSet opts } →
    Activates s r l → L = s.lanes[l] →
    (optionsOver L.options opts = none →
      exec (.laneSet ring tag lane opts) s = .next (s.completed r .range none)) ∧
    ∀ o, optionsOver L.options opts = some o →
      (L.state = .detached ∨ L.state = .detaching →
        exec (.laneSet ring tag lane opts) s = .next (s.completed r .state none)) ∧
      (L.state ≠ .detached → L.state ≠ .detaching →
        exec (.laneSet ring tag lane opts) s =
          .next (s.completedSync l
            { L with
              options := o,
              image := if o.layerOrder = L.options.layerOrder then L.image
                else L.image.mapEntries fun _ e => e.setLayers o.layerOrder e.base e.hold e.cal,
              pollTimer := if o.pollPeriod = L.options.pollPeriod then L.pollTimer else 0 }
            r (optionsResult o)))

/-- LANE_QUIESCE in each lane state, without and with a frame in flight (R40, R59; its result is the address of
the write ended short and no failure), and LANE_RESUME in each lane state (R61). -/
def Obligations.QuiesceAndResume : Prop :=
  ∀ (ring : Fin 4) (tag : Tag) (lane : Byte) (s : State) (l : Fin 16) (L : Lane) (r q : Request),
    r = { id := { ring := ring, tag := tag }, lane := lane, cmd := .laneQuiesce } →
    q = { id := { ring := ring, tag := tag }, lane := lane, cmd := .laneResume } → L = s.lanes[l] →
    (Activates s r l →
      (L.state = .active → s.inFlight l = none →
        exec (.laneQuiesce ring tag lane) s =
          .next ((s.setLane l
            { L with
              state := .quiesced, round := none, checkDue := false, ackDue := false, verifyDue := false,
              retryDue := L.retryDue.filter Tx.isDirect, retryCount := 0, stalePoll := false,
              image := L.image.mapEntries fun _ e =>
                if e.state = .pending then
                  Entry.rederive { e with applied := none, inFlight := none, attempts := 0 } else e
              }).completed r .ok
                (some (resultWord (orFF L.image.pendingAddr) 0xFF 0 0)))) ∧
      (∀ tx, L.state = .active → s.inFlight l = some tx →
        exec (.laneQuiesce ring tag lane) s =
          .next ((s.setLane l
            { L with
              state := .quiescing, transition := some r.id, round := none, checkDue := false,
              ackDue := L.ackDue && decide (tx = .ack), verifyDue := false,
              retryDue := L.retryDue.filter Tx.isDirect, retryCount := 0 }).opened r)) ∧
      (L.state = .quiesced →
        exec (.laneQuiesce ring tag lane) s =
          .next (s.completed r .ok (some (resultWord 0xFF 0xFF 0 0)))) ∧
      (L.state ≠ .active → L.state ≠ .quiesced →
        exec (.laneQuiesce ring tag lane) s = .next (s.completed r .state none))) ∧
    (Activates s q l →
      (L.state = .quiesced ∨ L.state = .faulted →
        exec (.laneResume ring tag lane) s =
          .next ((s.setLane l
            { L with
              state := .probing, purpose := some .resume, transition := some q.id, checkDue := true,
              ackDue := false, retryDue := none }).opened q)) ∧
      (L.state ≠ .quiesced → L.state ≠ .faulted →
        exec (.laneResume ring tag lane) s = .next (s.completed q .state none)))

/-- LANE_SYNC in each case (R46, R66): OK at once in sync, LANE_FAULT at once FAULTED, otherwise a waiter. -/
def Obligations.SyncWaitsForTheLane : Prop :=
  ∀ (ring : Fin 4) (tag : Tag) (lane : Byte) (limit : BitVec 16) (s : State) (l : Fin 16) (L : Lane)
    (r : Request) (inSync : Prop),
    r = { id := { ring := ring, tag := tag }, lane := lane, cmd := .laneSync limit } →
    Activates s r l → L = s.lanes[l] →
    (inSync ↔ L.state = .active ∧ L.image.queue = [] ∧
      ∀ a ∈ addresses, (L.image.get a).state ≠ .pending) →
    (L.state = .detached ∨ L.state = .detaching →
      exec (.laneSync ring tag lane limit) s = .next (s.completed r .state none)) ∧
    (inSync →
      exec (.laneSync ring tag lane limit) s =
        .next (s.completed r .ok (some (resultWord 2 0 0 0)))) ∧
    (L.state = .faulted →
      exec (.laneSync ring tag lane limit) s =
        .next (s.completed r .laneFault (some (resultWord 5 L.image.queue.length 0 0)))) ∧
    (¬ inSync → L.state ≠ .detached → L.state ≠ .detaching → L.state ≠ .faulted →
      exec (.laneSync ring tag lane limit) s =
        .next ((s.setLane l
          { L with waiters := L.waiters ++
              [{ id := r.id, remaining := if limit = 0 then none else some limit.toNat }] }).opened r))

/-- REG_SET (R21, R22): the refusals, and the change of one layer of one entry with the entry's intended value
and state as the result. Waiters that complete with it stand on the finish list as notes/assumptions/9.md
says. -/
def Obligations.RegSetChangesOneLayer : Prop :=
  ∀ (ring : Fin 4) (tag : Tag) (lane addr layer value : Byte) (present : Bool) (s : State) (l : Fin 16)
    (L : Lane) (im : Image) (e : Entry) (v : Option Byte) (r : Request),
    r = { id := { ring := ring, tag := tag }, lane := lane,
          cmd := .regSet addr layer value present } →
    Activates s r l → L = s.lanes[l] → v = (if present then some value else none) →
    (addr.toNat = 0 ∨ 63 < addr.toNat ∨ 1 < layer.toNat →
      exec (.regSet ring tag lane addr layer value present) s = .next (s.completed r .range none)) ∧
    (1 ≤ addr.toNat → addr.toNat ≤ 63 → layer.toNat ≤ 1 →
      (L.state = .detached ∨ L.state = .detaching →
        exec (.regSet ring tag lane addr layer value present) s =
          .next (s.completed r .state none)) ∧
      (L.state ≠ .detached → L.state ≠ .detaching →
        im = (L.image.mapEntries fun a x =>
          if a = addr.toNat then
            if layer = 0#8 then x.setLayers L.options.layerOrder v x.hold x.cal
            else x.setLayers L.options.layerOrder x.base v x.cal
          else x) →
        e = im.get addr.toNat →
        exec (.regSet ring tag lane addr layer value present) s =
          .next (s.completedSync l { L with image := im } r
            (resultWord (e.intended.getD 0).toNat
              (e.intended.isSome.toNat + 16 * entryStateCode e.state) 0 0))))

/-- READ_DIRECT and WRITE_DIRECT (R83, R84, R86): refused with RANGE, then with STATE, or joined to the tail of
the lane's direct list. -/
def Obligations.DirectRequestsJoinTheList : Prop :=
  ∀ (ring : Fin 4) (tag : Tag) (lane addr value : Byte) (s : State) (l : Fin 16) (L : Lane)
    (rd wr : Request),
    L = s.lanes[l] →
    rd = { id := { ring := ring, tag := tag }, lane := lane, cmd := .readDirect addr } →
    wr = { id := { ring := ring, tag := tag }, lane := lane, cmd := .writeDirect addr value } →
    (Activates s rd l →
      (63 < addr.toNat → exec (.readDirect ring tag lane addr) s = .next (s.completed rd .range none)) ∧
      (addr.toNat ≤ 63 → (L.state = .detached ∨ L.state = .quiescing ∨ L.state = .detaching) →
        exec (.readDirect ring tag lane addr) s = .next (s.completed rd .state none)) ∧
      (addr.toNat ≤ 63 →
        (L.state = .probing ∨ L.state = .active ∨ L.state = .quiesced ∨ L.state = .faulted) →
        exec (.readDirect ring tag lane addr) s =
          .next ((s.setLane l
            { L with directs := L.directs ++
                [{ id := rd.id, addr := addr.toNat, value := none, retries := 0 }] }).opened rd))) ∧
    (Activates s wr l →
      (addr.toNat = 0 ∨ 63 < addr.toNat →
        exec (.writeDirect ring tag lane addr value) s = .next (s.completed wr .range none)) ∧
      (1 ≤ addr.toNat → addr.toNat ≤ 63 → L.state ≠ .quiesced → L.state ≠ .faulted →
        exec (.writeDirect ring tag lane addr value) s = .next (s.completed wr .state none)) ∧
      (1 ≤ addr.toNat → addr.toNat ≤ 63 → (L.state = .quiesced ∨ L.state = .faulted) →
        exec (.writeDirect ring tag lane addr value) s =
          .next ((s.setLane l
            { L with directs := L.directs ++
                [{ id := wr.id, addr := addr.toNat, value := some value, retries := 0 }] }).opened wr)))

/-- WATCH_SET (R102 to R104): the refusals, and the replacement of one watch, which makes a POLL of it in flight
or due for retry (`Lane.PollOf`) stale, and no other. -/
def Obligations.WatchSetReplacesOneWatch : Prop :=
  ∀ (ring : Fin 4) (tag : Tag) (lane : Byte) (record : WatchRecord) (s : State) (l : Fin 16) (L : Lane)
    (r : Request),
    r = { id := { ring := ring, tag := tag }, lane := lane, cmd := .watchSet record } →
    Activates s r l → L = s.lanes[l] →
    (readWatch record = none →
      exec (.watchSet ring tag lane record) s = .next (s.completed r .range none)) ∧
    ∀ (i : Fin 8) (w : Watch) (stale : Bool), readWatch record = some (i, w) →
      (stale = true ↔ L.stalePoll = true ∨ L.PollOf (s.inFlight l) i) →
      (L.state = .detached ∨ L.state = .detaching →
        exec (.watchSet ring tag lane record) s = .next (s.completed r .state none)) ∧
      (L.state ≠ .detached → L.state ≠ .detaching → w.tempSource = true →
        (∃ j : Fin 8, j ≠ i ∧ L.watches[j].tempSource = true) →
        exec (.watchSet ring tag lane record) s = .next (s.completed r .conflict none)) ∧
      (L.state ≠ .detached → L.state ≠ .detaching →
        (w.tempSource = true → ∀ j : Fin 8, j ≠ i → L.watches[j].tempSource = false) →
        exec (.watchSet ring tag lane record) s =
          .next ((s.setLane l
            { L with watches := L.watches.set i w, stalePoll := stale }).completed r .ok
              (some (watchSetResult w))))

/-- FLAGS_CLEAR (R105): the named flags of the named watches clear, nothing else of a watch changes, and the
result carries all flags. -/
def Obligations.FlagsClearClearsNamedFlags : Prop :=
  ∀ (ring : Fin 4) (tag : Tag) (lane watchMask flagMask : Byte) (s : State) (l : Fin 16) (L : Lane)
    (ws : Vector Watch 8) (r : Request),
    r = { id := { ring := ring, tag := tag }, lane := lane, cmd := .flagsClear watchMask flagMask } →
    Activates s r l → L = s.lanes[l] →
    (L.state = .detached ∨ L.state = .detaching →
      exec (.flagsClear ring tag lane watchMask flagMask) s = .next (s.completed r .state none)) ∧
    (L.state ≠ .detached → L.state ≠ .detaching →
      (∀ i : Fin 8, ws[i] =
        if watchMask.getLsbD i.val then
          { L.watches[i] with flags :=
              { al := L.watches[i].flags.al && !flagMask.getLsbD 0,
                ah := L.watches[i].flags.ah && !flagMask.getLsbD 1,
                wl := L.watches[i].flags.wl && !flagMask.getLsbD 2,
                wh := L.watches[i].flags.wh && !flagMask.getLsbD 3 } }
        else L.watches[i]) →
      exec (.flagsClear ring tag lane watchMask flagMask) s =
        .next ((s.setLane l { L with watches := ws }).completed r .ok (some (flagsResult ws))))

/-- CAL_INDEX (R114, R117, R118) and CAL_CLEAR (R119): the refusals, and the change of the index or the table
with the recall of the cal layers; the results count the addresses whose cal layer changes. Waiters that
complete with it stand on the finish list as notes/assumptions/9.md says. -/
def Obligations.CalIndexAndCalClear : Prop :=
  ∀ (ring : Fin 4) (tag : Tag) (lane index : Byte) (s : State) (l : Fin 16) (L : Lane) (r q : Request),
    r = { id := { ring := ring, tag := tag }, lane := lane, cmd := .calIndex index } →
    q = { id := { ring := ring, tag := tag }, lane := lane, cmd := .calClear } → L = s.lanes[l] →
    (Activates s r l →
      (32 ≤ index.toNat → index ≠ 0xFF#8 →
        exec (.calIndex ring tag lane index) s = .next (s.completed r .range none)) ∧
      ∀ i : Option (Fin 32), (i = none ∧ index = 0xFF#8 ∨ ∃ k, i = some k ∧ index.toNat = k.val) →
        (L.state = .detached ∨ L.state = .detaching ∨ L.options.indexMode = .auto →
          exec (.calIndex ring tag lane index) s = .next (s.completed r .state none)) ∧
        (L.state ≠ .detached → L.state ≠ .detaching → L.options.indexMode = .manual →
          (L.index = i →
            exec (.calIndex ring tag lane index) s =
              .next (s.completedSync l L r (resultWord (indexCode i) (indexCode i) 0 0))) ∧
          (L.index ≠ i →
            exec (.calIndex ring tag lane index) s =
              .next ((s.raiseAll
                (if L.options.indexEvents then [.indexChange l L.index i .command none] else [])).completedSync
                  l { L with index := i, image := L.image.recall L.options.layerOrder L.table i } r
                  (resultWord (indexCode L.index) (indexCode i)
                    (addresses.countP fun a => decide ((L.image.get a).cal ≠ calAt L.table i a)) 0))))) ∧
    (Activates s q l →
      (L.state = .detached ∨ L.state = .detaching →
        exec (.calClear ring tag lane) s = .next (s.completed q .state none)) ∧
      (L.state ≠ .detached → L.state ≠ .detaching → L.table = [] →
        exec (.calClear ring tag lane) s = .next (s.completed q .ok (some 0))) ∧
      (L.state ≠ .detached → L.state ≠ .detaching → L.table ≠ [] →
        exec (.calClear ring tag lane) s =
          .next (s.completedSync l
            { L with table := [],
                     image := L.image.mapEntries fun _ e =>
                       e.setLayers L.options.layerOrder e.base e.hold none } q
            (resultWord L.table.length
              (addresses.countP fun a => decide ((L.image.get a).cal ≠ none)) 0 0))))

/-- CHAIN_LOAD (R122, R123): refused with RANGE, STATE or BUSY, joined to the loader queue, or made the active
load with the read of its first block asked for. -/
def Obligations.ChainLoadEntersTheLoader : Prop :=
  ∀ (ring : Fin 4) (tag : Tag) (lane mode : Byte) (first : HostAddr) (s : State) (l : Fin 16)
    (m : LoadMode) (r : Request),
    r = { id := { ring := ring, tag := tag }, lane := lane, cmd := .chainLoad mode first } →
    Activates s r l →
    (1 < mode.toNat ∨ first.toNat % 64 ≠ 0 →
      exec (.chainLoad ring tag lane mode first) s = .next (s.completed r .range none)) ∧
    ((m = .replace ∧ mode = 0#8 ∨ m = .merge ∧ mode = 1#8) → first.toNat % 64 = 0 →
      (s.lanes[l].state = .detached ∨ s.lanes[l].state = .detaching →
        exec (.chainLoad ring tag lane mode first) s = .next (s.completed r .state none)) ∧
      (s.lanes[l].state ≠ .detached → s.lanes[l].state ≠ .detaching →
        (8 ≤ s.loader.queue.length →
          exec (.chainLoad ring tag lane mode first) s = .next (s.completed r .busy none)) ∧
        (s.loader.queue.length < 8 →
          (s.loader.active ≠ none ∨ s.loader.discarded = true ∨ s.loader.queue ≠ []) →
          exec (.chainLoad ring tag lane mode first) s =
            .next { s.opened r with loader := { s.loader with queue := s.loader.queue ++
              [{ id := r.id, lane := l, mode := m, first := first }] } }) ∧
        (s.loader.active = none → s.loader.discarded = false → s.loader.queue = [] →
          exec (.chainLoad ring tag lane mode first) s =
            .next { s.opened r with
              transfers := s.transfers ++ [.blockRead first false],
              loader := { queue := [], discarded := false, staging := Staging.reset,
                          active := some { id := r.id, lane := l, mode := m, stage := .read first,
                                           position := 1, blocksRead := 0 } } })))

/-- LANE_REPORT (R154, R155): refused with RANGE for its buffer address, and otherwise, in every lane state, the
capture of the lane whose write is asked for. -/
def Obligations.ReportCapturesTheLane : Prop :=
  ∀ (ring : Fin 4) (tag : Tag) (lane : Byte) (buffer : HostAddr) (s : State) (l : Fin 16) (r : Request),
    r = { id := { ring := ring, tag := tag }, lane := lane, cmd := .laneReport buffer } →
    Activates s r l →
    (buffer.toNat % 64 ≠ 0 →
      exec (.laneReport ring tag lane buffer) s = .next (s.completed r .range none)) ∧
    (buffer.toNat % 64 = 0 →
      exec (.laneReport ring tag lane buffer) s =
        .next { s.opened r with transfers := s.transfers ++
          [.reportWrite r.id buffer
            (reportBytes s.lanes[l] (s.lanes[l].binding.map fun b => s.ports[b.port])) false] })

/-! ### The device and its registers -/

/-- A CONTROL write by Table 11-1 and the table of R166: which command it carries, and what the command does in
each device state; START in HALTED asks for the setup read at SETUP_BASE (R167). -/
def Obligations.ControlTakesOneCommand : Prop :=
  ∀ (v : Word) (s : State),
    (v.getLsbD 2 = true → exec (.registerWrite .control v) s = exec .reset s) ∧
    (v.getLsbD 2 = false → v.getLsbD 0 = true → v.getLsbD 1 = false →
      exec (.registerWrite .control v) s = exec .start s) ∧
    (v.getLsbD 2 = false → v.getLsbD 0 = false → v.getLsbD 1 = true →
      exec (.registerWrite .control v) s = exec .stop s) ∧
    (v.getLsbD 2 = false → v.getLsbD 0 = v.getLsbD 1 →
      exec (.registerWrite .control v) s = .next s) ∧
    (s.device ≠ .halted ∨ s.errorCode = .hostWrite → exec .start s = .next s) ∧
    (s.device = .halted → s.errorCode ≠ .hostWrite →
      exec .start s =
        .next { s with device := .starting, errorCode := .none,
                       transfers := s.transfers ++ [.setupRead s.setupBase false] }) ∧
    (s.device ≠ .running → exec .stop s = .next s) ∧
    (s.device = .running →
      ∃ t, exec .stop s = .next t ∧ (t.device = .stopping ∨
        t.device = .halted ∧ t.table = [] ∧ t.finishList = [])) ∧
    (s.device = .resetting → exec .reset s = .next s) ∧
    (s.device ≠ .resetting → ∃ t, exec .reset s = .next t ∧ t.device = .resetting)

/-- STOP in RUNNING (R67, R68, R89, R136, R155, R156, R170): every outstanding command that does not wait for
its own frame or transfer (`awaits`: a direct request with its frame in flight, the active load with its read
in flight, a LANE_REPORT with its write in flight) finishes ABORTED. They join the finish list in fetch order,
and the SYNC waiters of one lane, among the places they hold, in the order of its waiter list: the model's
reading of R67, R146 and R156 (notes/assumptions/9.md). Lanes keep all but their waiters, transition command
and direct list; waiting loads, unstarted reports and unstarted block reads go. With nothing outstanding the
part is HALTED at once, with the pending events whose write is not in flight counted as lost (R161); that a
fetch in flight keeps it in STOPPING is the model's reading (notes/assumptions/29.md). -/
def Obligations.StopAbortsOutstanding : Prop :=
  ∀ (s : State) (awaits : OctEntry → Bool) (waits : Fin 16 → OctEntry → Bool)
    (place : Fin 16 → OctEntry → Nat) (ended : List OctEntry) (idle : Prop),
    s.device = .running → (s.table.map (·.id)).Nodup →
    (∀ e, awaits e = true ↔ e.stage = .active ∧
      (((∃ x, e.cmd = .readDirect x) ∨ ∃ x v, e.cmd = .writeDirect x v) ∧
          (∃ (l : Fin 16) (b : Binding) (tx : Tx) (d : DirectReq) (rest : List DirectReq),
            e.lane.toNat = l.val ∧ s.lanes[l].binding = some b ∧
              s.ports[b.port].frame = some { lane := l, tx := tx } ∧
              ((∃ x, tx = .directRead x) ∨ ∃ x v, tx = .directWrite x v) ∧
              s.lanes[l].directs = d :: rest ∧ d.id = e.id) ∨
        (∃ m x, e.cmd = .chainLoad m x) ∧ (∃ d, s.loader.active = some d ∧ d.id = e.id) ∧
          (∃ x, Transfer.blockRead x true ∈ s.transfers) ∨
        (∃ x, e.cmd = .laneReport x) ∧ ∃ x bs, Transfer.reportWrite e.id x bs true ∈ s.transfers)) →
    (∀ l e, waits l e = true ↔ e.lane.toNat = l.val ∧ ∃ w ∈ s.lanes[l].waiters, w.id = e.id) →
    (∀ l e, place l e = s.lanes[l].waiters.findIdx fun w => decide (w.id = e.id)) →
    ended = s.table.filter (fun e => !e.finished && !awaits e) →
    (idle ↔ s.table = [] ∧ s.finishList = [] ∧ ∀ x ∈ s.transfers, x.isFetch = false) →
    ∃ (t : State) (aborted : List OctEntry), exec .stop s = .next t ∧
      t.finishList = s.finishList ++ aborted.map (fun e => .entry e.id) ∧ aborted.Perm ended ∧
      (∀ (n : Nat) (e f : OctEntry), ended[n]? = some e → aborted[n]? = some f →
        (∀ l, waits l f = waits l e) ∧ ((∀ l, waits l e = false) → f = e)) ∧
      (∀ l, (aborted.filter (waits l)).Pairwise fun e f => place l e < place l f) ∧
      (∀ e ∈ ended, ∃ f ∈ t.table, f.id = e.id ∧ ∃ res, f.stage = .finished .aborted none res) ∧
      (∀ e ∈ s.table, e.finished = true → e ∈ t.table) ∧
      (∀ e ∈ s.table, awaits e = true → { e with stopped := true } ∈ t.table) ∧
      t.table.map (·.id) = s.table.map (·.id) ∧
      (¬ idle → t.device = .stopping ∧ t.rings = s.rings ∧ t.eq = s.eq ∧ t.intState = s.intState) ∧
      (idle → t.device = .halted ∧ t.intState = { s.intState with state := true } ∧
        (∀ q : Fin 4, t.rings[q] = { s.rings[q] with state := .off }) ∧
        ∀ kept : List Event,
          kept = (if ∃ x ∈ s.transfers, x.isEventWrite = true then s.eq.pending.take 1 else []) →
          t.eq = { s.eq with
            pending := kept, lost := min (s.eq.lost + (s.eq.pending.length - kept.length)) 65535 }) ∧
      t.loader.queue = [] ∧ t.loader.discarded = s.loader.discarded ∧
      ((∃ x, Transfer.blockRead x true ∈ s.transfers) →
        t.loader.active = s.loader.active ∧ t.loader.staging = s.loader.staging) ∧
      ((∀ x, Transfer.blockRead x true ∉ s.transfers) → t.loader.active = none ∧
        (s.loader.active ≠ none → t.loader.staging = Staging.reset)) ∧
      (LoaderInv s → ∀ x ∈ t.transfers, x.isBlockRead = true → x.started = true) ∧
      t.ports = s.ports ∧ t.cq = s.cq ∧ t.intEnable = s.intEnable ∧ t.errorCode = s.errorCode ∧
      t.pending = s.pending ∧
      (∀ x ∈ s.transfers, x.started = true → x ∈ t.transfers) ∧
      (∀ x ∈ t.transfers, x = .message ∨ x ∈ s.transfers ∧ (x.isReport = true → x.started = true)) ∧
      ∀ l : Fin 16, t.lanes[l] =
        { s.lanes[l] with
          transition := none, waiters := [],
          directs := if ∃ tx ∈ s.inFlight l, tx.isDirect = true then s.lanes[l].directs.take 1 else [],
          retryDue := s.lanes[l].retryDue.filter fun tx => !tx.isDirect }

/-- RESET and a reset of the host bus (R82, R161, R163, R165, R172): what has been started is let end, what has
not and every message not yet sent is dropped, the pending events are lost, and a port with no frame in flight
takes its reset state; in RESETTING both are absorbed. The other blocks take theirs at RESET_END, as the model
reads R172 (notes/assumptions/14.md). RESET_END:
RESETTING ends when every port and the Host Port have ended what they had in flight, and then, as after
POWER_ON, the part holds the reset state; the commands that wait stay. -/
def Obligations.ResetAndItsEnd : Prop :=
  (∀ (s : State) (c : Instr), (c = .reset ∨ c = .hostBusReset) →
    (s.device = .resetting → exec c s = .next s) ∧
    (s.device ≠ .resetting →
      ∃ t, exec c s = .next t ∧ t.transfers = s.transfers.filter Transfer.started ∧
        (∀ p : Fin 4, (s.ports[p].frame = none → t.ports[p] = Port.reset) ∧
          (s.ports[p].frame ≠ none → t.ports[p] = s.ports[p])) ∧
        t = { s with
          device := .resetting, errorCode := .none, transfers := t.transfers, ports := t.ports,
          eq := { s.eq with pending := [],
                            lost := min (s.eq.lost + s.eq.pending.length) 65535 } })) ∧
  ∀ s : State,
    exec .powerOn s = .next { State.reset with pending := s.pending } ∧
    (s.device = .resetting → (∀ p : Fin 4, s.ports[p].frame = none) → s.transfers = [] →
      exec .resetEnd s = .next { State.reset with pending := s.pending }) ∧
    ((s.device ≠ .resetting ∨ (∃ p : Fin 4, s.ports[p].frame ≠ none) ∨ s.transfers ≠ []) →
      exec .resetEnd s = .next s)

/-- POST by the table of R139; RING_ERROR and the causes as R138 and Table 9-2 give them. -/
def Obligations.PostMovesTheTail : Prop :=
  ∀ (q : Fin 4) (tail : BitVec 16) (s : State),
    (s.device = .running → s.rings[q].state = .active → tail.toNat < s.rings[q].size →
      exec (.post q tail) s =
        .next { s with rings := s.rings.set q { s.rings[q] with tail := tail.toNat } }) ∧
    (s.device = .running → s.rings[q].state = .active → s.rings[q].size ≤ tail.toNat →
      exec (.post q tail) s =
        .next (({ s with rings := s.rings.set q { s.rings[q] with state := .error } }.raise
          (.ringError q .postRange)).setCauses
            { completion := false, event := false, error := true, state := false })) ∧
    ((s.device = .running ∧ s.rings[q].state ≠ .active) ∨ s.device = .starting ∨
        s.device = .stopping ∨ s.device = .halted →
      exec (.post q tail) s =
        .next ({ s with badPost := true }.setCauses
          { completion := false, event := false, error := true, state := false })) ∧
    (s.device = .resetting → exec (.post q tail) s = .next s)

/-- RETURN (R151): the slots returned are counted forward from the head; a RETURN beyond the ring or of more
slots than are occupied, or in HALTED or STARTING, sets BAD_RETURN and ERROR. -/
def Obligations.ReturnGivesSlotsBack : Prop :=
  ∀ (which : ReturnRing) (head : BitVec 16) (s : State) (o : OutRing) (n : Nat) (bad : State),
    o = (match which with
      | .cq => s.cq
      | .eq => s.eq.ring) →
    o.Ok →
    n = (if head.toNat = o.head then (if o.occupied = o.size then o.size else 0)
      else (head.toNat + o.size - o.head) % o.size) →
    bad = { s with badReturn := true }.setCauses
      { completion := false, event := false, error := true, state := false } →
    ((s.device = .running ∨ s.device = .stopping) → head.toNat < o.size → n ≤ o.occupied →
      exec (.ringReturn which head) s =
        .next (match which with
          | .cq => { s with cq := { o with head := head.toNat, occupied := o.occupied - n } }
          | .eq => { s with eq := { s.eq with
              ring := { o with head := head.toNat, occupied := o.occupied - n } } })) ∧
    ((s.device = .running ∨ s.device = .stopping) → (o.size ≤ head.toNat ∨ o.occupied < n) →
      exec (.ringReturn which head) s = .next bad) ∧
    ((s.device = .halted ∨ s.device = .starting) → exec (.ringReturn which head) s = .next bad) ∧
    (s.device = .resetting → exec (.ringReturn which head) s = .next s)

/-- STATUS_WRITE (R162, R165): ones clear flags and causes. INT_ENABLE_WRITE (R163): the enable bits become
those written, with a message, sent at once or queued in its turn, when the condition rises
(notes/assumptions/6.md). REGISTER_WRITE (R164, Tables 10-1 and 11-1): IDENT ignores a write, SETUP_BASE takes
its words with the six lowest bits zero, and the other registers are their own commands. All are ignored in
RESETTING. -/
def Obligations.RegisterWrites : Prop :=
  ∀ (v : Word) (s : State),
    (s.device = .resetting →
      exec (.statusWrite v) s = .next s ∧ exec (.intEnableWrite v) s = .next s) ∧
    (s.device ≠ .resetting →
      exec (.statusWrite v) s = .next { s with
        badPost := s.badPost && !v.getLsbD 5, badReturn := s.badReturn && !v.getLsbD 6,
        intState := { completion := s.intState.completion && !v.getLsbD 16,
                      event := s.intState.event && !v.getLsbD 17,
                      error := s.intState.error && !v.getLsbD 18,
                      state := s.intState.state && !v.getLsbD 19 } } ∧
      ∀ (u : State) (holds : Causes → Prop),
        u = { s with intEnable := { completion := v.getLsbD 0, event := v.getLsbD 1,
                                    error := v.getLsbD 2, state := v.getLsbD 3 } } →
        (∀ x, holds x ↔ s.intState.completion = true ∧ x.completion = true ∨
          s.intState.event = true ∧ x.event = true ∨ s.intState.error = true ∧ x.error = true ∨
          s.intState.state = true ∧ x.state = true) →
        (holds s.intEnable ∨ ¬ holds u.intEnable → exec (.intEnableWrite v) s = .next u) ∧
        (¬ holds s.intEnable → holds u.intEnable →
          (s.transfers = [] →
            exec (.intEnableWrite v) s = .next { u with messages := s.messages + 1 }) ∧
          ∀ x xs, s.transfers = x :: xs → x ≠ .message →
            exec (.intEnableWrite v) s = .next { u with transfers := s.transfers ++ [.message] })) ∧
    exec (.registerWrite .ident v) s = .next s ∧
    exec (.registerWrite .status v) s = exec (.statusWrite v) s ∧
    exec (.registerWrite .intEnable v) s = exec (.intEnableWrite v) s ∧
    (∀ q : Fin 4, v.toNat % 4 = q.val →
      exec (.registerWrite .post v) s = exec (.post q (BitVec.ofNat 16 (v.toNat / 65536))) s) ∧
    (v.toNat % 2 = 0 → exec (.registerWrite .ringReturn v) s =
      exec (.ringReturn .cq (BitVec.ofNat 16 (v.toNat / 65536))) s) ∧
    (v.toNat % 2 = 1 → exec (.registerWrite .ringReturn v) s =
      exec (.ringReturn .eq (BitVec.ofNat 16 (v.toNat / 65536))) s) ∧
    (s.device = .resetting → exec (.registerWrite .setupLow v) s = .next s ∧
      exec (.registerWrite .setupHigh v) s = .next s) ∧
    (s.device ≠ .resetting →
      (∃ a : HostAddr, exec (.registerWrite .setupLow v) s = .next { s with setupBase := a } ∧
        a.toNat = s.setupBase.toNat / 2 ^ 32 * 2 ^ 32 + v.toNat / 64 * 64) ∧
      ∃ a : HostAddr, exec (.registerWrite .setupHigh v) s = .next { s with setupBase := a } ∧
        a.toNat = v.toNat * 2 ^ 32 + s.setupBase.toNat % 2 ^ 32)

/-! ### The Host Port -/

/-- SETUP_READ_START and SETUP_READ_END (R167 to R169): the setup read starts; its end makes the part HALTED
with SETUP_READ or SETUP_INVALID, or RUNNING with rings, ports without a bound lane and mask from the block;
lanes, images, the lost-event count and the enable bits stay. What a ring that is off takes besides OFF (head
and tail 0, its record's base and size, and its rights code, which no check has seen) is the model's reading
(notes/assumptions/27.md). -/
def Obligations.SetupReadStartsThePart : Prop :=
  ∀ (s u : State) (a : HostAddr) (ts : List Transfer) (passes : List Byte → Prop),
    u = s.afterTransfer ts →
    (s.transfers = .setupRead a false :: ts →
      exec .setupReadStart s = .next { s with transfers := .setupRead a true :: ts }) ∧
    (s.transfers = .setupRead a true :: ts → s.device ≠ .starting → ∀ result,
      exec (.setupReadEnd result) s = .next u) ∧
    (s.transfers = .setupRead a true :: ts → s.device = .starting →
      (∀ bs, passes bs ↔
        (∃ q : Fin 4, (setupRing bs q).on = true) ∧
        (∀ q : Fin 4, (setupRing bs q).on = true →
          (setupRing bs q).size ∈ ringSizes ∧ (setupRing bs q).base.toNat % 64 = 0 ∧
            (setupRing bs q).rights.toNat ≤ 1) ∧
        (∀ r, r = setupCq bs ∨ r = setupEq bs →
          r.on = true ∧ r.size ∈ ringSizes ∧ r.base.toNat % 64 = 0) ∧
        ∀ p : Fin 4, (setupPort bs p).enabled = true →
          (setupPort bs p).bitRate ∈ [1, 2, 4, 8] ∧ 8 ≤ (setupPort bs p).window ∧
            (setupPort bs p).window ≤ 64) →
      exec (.setupReadEnd .error) s =
        .next (State.setCauses { completion := false, event := false, error := false, state := true }
          { u with device := .halted, errorCode := .setupRead }) ∧
      ∀ bs,
        (¬ passes bs → exec (.setupReadEnd (.data bs)) s =
          .next (State.setCauses { completion := false, event := false, error := false, state := true }
            { u with device := .halted, errorCode := .setupInvalid })) ∧
        (passes bs → ∃ (rings : Vector SubRing 4) (ports : Vector Port 4),
          exec (.setupReadEnd (.data bs)) s =
            .next (State.setCauses { completion := false, event := false, error := false, state := true }
              { u with
                device := .running, rings := rings, intakePointer := 3,
                cq := { base := (setupCq bs).base, size := (setupCq bs).size, writeSlot := 0, head := 0,
                        occupied := 0, phase := true },
                eq := { s.eq with
                  ring := { base := (setupEq bs).base, size := (setupEq bs).size, writeSlot := 0,
                            head := 0, occupied := 0, phase := true },
                  mask := le16 bs 112 },
                ports := ports }) ∧
          (∀ q : Fin 4,
            rings[q].state = (if (setupRing bs q).on then .active else .off) ∧
            rings[q].base = (setupRing bs q).base ∧ rings[q].size = (setupRing bs q).size ∧
            rings[q].rights = (if (setupRing bs q).rights = 1#8 then .observe else .full) ∧
            rings[q].head = 0 ∧ rings[q].tail = 0) ∧
          ∀ p : Fin 4, ports[p] =
            if ∃ l : Fin 16, s.lanes[l].state ≠ .detached ∧ s.lanes[l].binding.map (·.port) = some p
            then s.ports[p]
            else { s.ports[p] with enabled := (setupPort bs p).enabled,
                                   bitRate := (setupPort bs p).bitRate,
                                   window := (setupPort bs p).window }))

/-- FETCH_START (R140): the first ring after the intake pointer that is ACTIVE with head and tail apart. -/
def Obligations.FetchAsksForARecord : Prop :=
  ∀ (s : State) (q : Fin 4) (waits : Fin 4 → Prop),
    (∀ j, waits j ↔ s.rings[j].state = .active ∧ s.rings[j].head ≠ s.rings[j].tail) →
    (s.device = .running → s.fetchInFlight = false → s.table.length < 32 → s.finishList = [] →
      waits q → (∀ j, (j - s.intakePointer - 1).val < (q - s.intakePointer - 1).val → ¬ waits j) →
      exec .fetchStart s = .next { s with
        intakePointer := q,
        transfers := s.transfers ++
          [.fetch q (s.rings[q].base + BitVec.ofNat 64 (32 * s.rings[q].head))] }) ∧
    ((s.device ≠ .running ∨ s.fetchInFlight = true ∨ 32 ≤ s.table.length ∨ s.finishList ≠ [] ∨
        ∀ j, ¬ waits j) →
      exec .fetchStart s = .next s)

/-- FETCH_END (R141, R142): a record read in RUNNING moves the ring's head and is taken as its row, or refused
with UNKNOWN_KIND; a read error puts the ring in ERROR, in STOPPING too (the model's reading,
notes/assumptions/13.md); in STOPPING a record is discarded, and so is what a ring that is not ACTIVE or a
part in RESETTING fetched. That the end of the fetch can be what ends STOPPING (`State.stopLeft`) is the model's
reading (notes/assumptions/29.md). -/
def Obligations.FetchTakesTheRecord : Prop :=
  ∀ (s u v w : State) (q : Fin 4) (a : HostAddr) (ts : List Transfer) (next : Nat),
    s.transfers = .fetch q a :: ts → u = s.afterTransfer ts →
    next = (if s.rings[q].head + 1 < s.rings[q].size then s.rings[q].head + 1 else 0) →
    v = { u with rings := s.rings.set q { s.rings[q] with head := next } } →
    w = ({ u with rings := s.rings.set q { s.rings[q] with state := .error } }.raise
      (.ringError q .readError)).setCauses
        { completion := false, event := false, error := true, state := false } →
    (s.device = .resetting → ∀ result, exec (.fetchEnd result) s = .next u) ∧
    (s.device ≠ .resetting → s.rings[q].state ≠ .active → ∀ result,
      exec (.fetchEnd result) s = .next u.stopLeft) ∧
    (s.device = .running → s.rings[q].state = .active →
      exec (.fetchEnd .error) s = .next w) ∧
    (s.device = .stopping → s.rings[q].state = .active →
      exec (.fetchEnd .error) s = .next w.stopLeft ∧
      ∀ bs, exec (.fetchEnd (.data bs)) s = .next u.stopLeft) ∧
    (s.device = .running → s.rings[q].state = .active → ∀ (bs : List Byte) (id : CmdId),
      id = { ring := q, tag := le16 bs 2 } →
      (readCmd bs = none →
        exec (.fetchEnd (.data bs)) s =
          .next { v with finishList := s.finishList ++ [.refusal id none .unknownKind] }) ∧
      ∀ (c : Cmd) (r : Request), readCmd bs = some c → r = { id := id, lane := byteAt bs 1, cmd := c } →
        (c ≠ .nop → v.intakeOpen q = true → exec (.fetchEnd (.data bs)) s = exec r.row v) ∧
        (c = .nop → (∀ e ∈ s.table, e.id ≠ id) →
          exec (.fetchEnd (.data bs)) s =
            .next (v.completed r .ok (some (resultWord (s.table.length + 1) 0 0 0)))))

/-- COMPLETION_WRITE_START and COMPLETION_WRITE_END (R147 to R150, R170, R171): the head of the finish list is
written at the write slot, as the record of its command's tag, ring, status, detail, lane and result with the
ring's head and the phase as they stand (R149, R175); its write's end advances the slot and the phase, frees
its table entry and sets COMPLETION; a failed write halts the part; STOPPING ends with the last completion,
and with a fetch in flight at that fetch's end (the model's reading, notes/assumptions/29.md). The end of a
write that was in flight across a halt is taken in HALTED or STARTING by the same rule: without error it does
all that it does in RUNNING, and with an error it changes nothing (the model's reading,
notes/assumptions/22.md). -/
def Obligations.CompletionsAreWritten : Prop :=
  ∀ s : State, (s.finishList = [] → exec .completionWriteStart s = .next s) ∧
    (∀ a record ts result, s.device = .resetting → s.transfers = .completionWrite a record :: ts →
      exec (.completionWriteEnd result) s = .next (s.afterTransfer ts)) ∧
    ∀ (item : FinishItem) (rest : List FinishItem), s.finishList = item :: rest →
    (∀ id lane status, item = .refusal id lane status → s.completionOf item =
      completionRecord id status none lane s.rings[id.ring].head none s.cq.phase) ∧
    ((s.table.map (·.id)).Nodup → ∀ (e : OctEntry) status detail result, item = .entry e.id →
      e ∈ s.table → e.stage = .finished status detail result → s.completionOf item =
        completionRecord e.id status detail (if e.cmd = .nop then none else some e.lane)
          s.rings[e.id.ring].head result s.cq.phase) ∧
    ((s.device = .running ∨ s.device = .stopping) → s.cq.occupied < s.cq.size →
      s.completionWriteInFlight = false →
      exec .completionWriteStart s = .next { s with transfers := s.transfers ++
        [.completionWrite (s.cq.base + BitVec.ofNat 64 (16 * s.cq.writeSlot)) (s.completionOf item)] }) ∧
    (s.device = .halted ∨ s.device = .starting ∨ s.device = .resetting ∨ s.cq.size ≤ s.cq.occupied ∨
        s.completionWriteInFlight = true →
      exec .completionWriteStart s = .next s) ∧
    ∀ (a : HostAddr) (record : List Byte) (ts : List Transfer) (v u : State) (table : List OctEntry),
      s.transfers = .completionWrite a record :: ts → v = s.afterTransfer ts →
      table = (match item with
        | .entry id => s.table.filter fun e => decide (e.id ≠ id)
        | .refusal _ _ _ => s.table) →
      u = State.setCauses { completion := true, event := false, error := false, state := false }
        { v with
          finishList := rest, table := table,
          cq := { s.cq with
            writeSlot := if s.cq.writeSlot + 1 < s.cq.size then s.cq.writeSlot + 1 else 0,
            phase := if s.cq.writeSlot + 1 < s.cq.size then s.cq.phase else !s.cq.phase,
            occupied := s.cq.occupied + 1 } } →
      (s.device ≠ .resetting → exec (.completionWriteEnd .ok) s = .next u.stopLeft) ∧
      (s.device ≠ .stopping ∨ rest ≠ [] ∨ table ≠ [] ∨ (∃ x ∈ ts, x.isFetch = true) → u.stopLeft = u) ∧
      (s.device = .stopping → rest = [] → table = [] → (∀ x ∈ ts, x.isFetch = false) →
        u.stopLeft = u.haltLeft s.errorCode
          { completion := false, event := false, error := false, state := true }) ∧
      (s.device = .running ∨ s.device = .stopping →
        exec (.completionWriteEnd .error) s = .next (v.haltLeft .hostWrite
          { completion := false, event := false, error := true, state := true })) ∧
      (s.device = .halted ∨ s.device = .starting →
        exec (.completionWriteEnd .error) s = .next v)

/-- EVENT_WRITE_START and EVENT_WRITE_END (R150, R159, R161, R171): the first pending event is written at the
write slot with the lost-event count as it stands; its write's end advances the slot and the phase, lowers
the count by what the record carried and sets EVENT; a failed write halts the part, and counts its event as
lost where the part has been halted. With nothing pending no write starts, and in RESETTING, whose pending list
is empty, a write's end does nothing but leave the Host Port (R172). -/
def Obligations.EventsAreWritten : Prop :=
  ∀ s : State, (s.eq.pending = [] → exec .eventWriteStart s = .next s) ∧
    (∀ a record carried ts result, s.device = .resetting →
      s.transfers = .eventWrite a record carried :: ts →
      exec (.eventWriteEnd result) s = .next (s.afterTransfer ts)) ∧
    ∀ (e : Event) (es : List Event), s.eq.pending = e :: es →
    ((s.device = .running ∨ s.device = .stopping) → s.eventWriteInFlight = false →
      exec .eventWriteStart s = .next { s with transfers := s.transfers ++
        [.eventWrite (s.eq.ring.base + BitVec.ofNat 64 (16 * s.eq.ring.writeSlot))
          (eventRecord e s.eq.lost s.eq.ring.phase) s.eq.lost] }) ∧
    (s.device = .halted ∨ s.device = .starting ∨ s.device = .resetting ∨ s.eventWriteInFlight = true →
      exec .eventWriteStart s = .next s) ∧
    ∀ (a : HostAddr) (record : List Byte) (carried : Nat) (ts : List Transfer) (v : State),
      s.transfers = .eventWrite a record carried :: ts → v = s.afterTransfer ts →
      (s.device ≠ .resetting →
        exec (.eventWriteEnd .ok) s =
          .next (State.setCauses { completion := false, event := true, error := false, state := false }
            { v with
              eq := { s.eq with
                pending := es, lost := s.eq.lost - carried,
                ring := { s.eq.ring with
                  writeSlot := if s.eq.ring.writeSlot + 1 < s.eq.ring.size
                    then s.eq.ring.writeSlot + 1 else 0,
                  phase := if s.eq.ring.writeSlot + 1 < s.eq.ring.size
                    then s.eq.ring.phase else !s.eq.ring.phase,
                  occupied := s.eq.ring.occupied + 1 } } })) ∧
      (s.device = .running ∨ s.device = .stopping → ts.countP Transfer.isEventWrite = 0 →
        exec (.eventWriteEnd .error) s = .next (v.haltLeft .hostWrite
          { completion := false, event := false, error := true, state := true }) ∧
        (v.haltLeft .hostWrite
            { completion := false, event := false, error := true, state := true }).eq =
          { s.eq with pending := [], lost := min (s.eq.lost + s.eq.pending.length) 65535 }) ∧
      (s.device = .halted ∨ s.device = .starting →
        exec (.eventWriteEnd .error) s =
          .next { v with eq := { s.eq with pending := es, lost := min (s.eq.lost + 1) 65535 } })

/-- BLOCK_READ_START and BLOCK_READ_END (R122, R124, R125, R128, R133, R135, R136): the read starts; its end
asks for the next block, makes the load COMMIT DUE, or ends the load with its status and takes the next; a
discarded read changes nothing but that. That the blocks read at TOO_LONG are 16, the block that passed counted,
is the model's reading (notes/assumptions/23.md), and so is the order of the release
(notes/assumptions/8.md). -/
def Obligations.BlockReadsEnd : Prop :=
  ∀ (s u : State) (a : HostAddr) (ts : List Transfer), u = s.afterTransfer ts →
    (s.transfers = .blockRead a false :: ts →
      exec .blockReadStart s = .next { s with transfers := .blockRead a true :: ts }) ∧
    (s.transfers = .blockRead a true :: ts → s.device = .resetting → ∀ result,
      exec (.blockReadEnd result) s = .next u) ∧
    (s.transfers = .blockRead a true :: ts → s.device ≠ .resetting → s.loader.discarded = true →
      s.loader.active = none → ∀ result,
      exec (.blockReadEnd result) s =
        .next (State.nextLoad { u with loader := { s.loader with discarded := false } })) ∧
    ∀ (d : ActiveLoad) (ends : Status → Option Detail → Nat → Nat → State),
      s.transfers = .blockRead a true :: ts → s.device ≠ .resetting → s.loader.discarded = false →
      s.loader.active = some d →
      (∀ status detail position blocks, ends status detail position blocks =
        ((u.finish { id := d.id, status := status, detail := detail,
                     result := some (resultWord blocks position 0 0) }).nextLoad).release) →
      (s.stopped d.id = true → ∀ result,
        exec (.blockReadEnd result) s = .next (ends .aborted none 0 d.blocksRead)) ∧
      (s.stopped d.id = false →
        exec (.blockReadEnd .error) s = .next (ends .hostMemory none d.position d.blocksRead) ∧
        ∀ bs,
          (∀ err, checkBlock d.position bs s.loader.staging = .error err →
            exec (.blockReadEnd (.data bs)) s =
              .next (ends .chainError (some (.chain err)) d.position d.blocksRead)) ∧
          ∀ st, checkBlock d.position bs s.loader.staging = .ok st →
            (le64 bs 8 = 0 →
              exec (.blockReadEnd (.data bs)) s =
                .next { u with loader := { s.loader with
                  active := some { d with stage := .commitDue, blocksRead := d.blocksRead + 1 },
                  staging := st } }) ∧
            (le64 bs 8 ≠ 0 → 16 ≤ d.position →
              exec (.blockReadEnd (.data bs)) s =
                .next (ends .chainError (some (.chain .tooLong)) (d.position + 1)
                  (d.blocksRead + 1))) ∧
            (le64 bs 8 ≠ 0 → d.position < 16 →
              exec (.blockReadEnd (.data bs)) s =
                .next { u with
                  transfers := u.transfers ++ [.blockRead (le64 bs 8) false],
                  loader := { s.loader with
                    active := some { d with stage := .read (le64 bs 8), position := d.position + 1,
                                            blocksRead := d.blocksRead + 1 },
                    staging := st } }))

/-- CHAIN_COMMIT (R129 to R133): a chain that would give a MERGE more than eight columns, or the lane two
temperature sources, is not applied; any other is applied whole in one happening: base and cal layers, table
and watches. Then the next load is taken (R122), with an empty staging area. The position of TABLE_FULL is the
block of the first staged column that would be the ninth, and that of BAD_ENTRY the block of the last staged
temperature source, as the model reads R129 (notes/assumptions/27.md); the order of the load's completion
with the SYNC waiters' (`completionOrder`, notes/assumptions/9.md) and of the release (notes/assumptions/8.md)
is the model's reading too. -/
def Obligations.CommitAppliesTheChain : Prop :=
  ∀ (s : State) (d : ActiveLoad) (l : Fin 16) (L M : Lane) (st : Staging) (table : List Column)
    (act : Nat → Option BaseAction) (merge : List Column → Column → List Column)
    (base : Nat → Entry → Option Byte) (cal : Nat → Entry → Option Byte) (stale : Bool)
    (after' : State → State),
    s.loader.active = some d → d.stage = .commitDue → s.device ≠ .resetting → d.lane = l →
    L = s.lanes[l] → st = s.loader.staging →
    table = (if st.columns = [] then L.table
      else if d.mode = .replace then st.columns.map (·.column)
      else st.columns.foldl (fun t c => merge t c.column) L.table) →
    (∀ t c, merge t c = if ∃ d ∈ t, d.target = c.target
      then t.map fun d => if d.target = c.target then c else d else t ++ [c]) →
    (∀ x : Fin 63, act (x.val + 1) = st.base[x]) → act 0 = none → (∀ x, 63 < x → act x = none) →
    (∀ x e, base x e =
      if ∀ y ∈ addresses, act y = none then e.base
      else match act x with
        | some (.set v) => some v
        | some .clear => none
        | none => if d.mode = .replace then none else e.base) →
    (∀ x e, cal x e = if st.columns = [] then e.cal else calAt table L.index x) →
    (stale = true ↔ L.stalePoll = true ∨
      ∃ i : Fin 8, L.PollOf (s.inFlight l) i ∧ st.watches[i].isSome = true) →
    M = { L with
      image := L.image.mapEntries fun x e =>
        e.setLayers L.options.layerOrder (base x e) e.hold (cal x e),
      table := table,
      watches := Vector.ofFn fun i =>
        match st.watches[i] with
        | some w => w.watch
        | none => L.watches[i],
      stalePoll := stale } →
    (∀ u : State, after' u = u.nextLoad.release) →
    ((d.mode = .merge ∧ 8 < table.length) → ∀ (k : Nat) (c : StagedColumn) (new : Column → Bool),
      (∀ x, new x = true ↔ ∀ y ∈ L.table, y.target ≠ x.target) →
      st.columns[k]? = some c → new c.column = true →
      L.table.length + (st.columns.take k).countP (fun x => new x.column) = 8 →
      exec .chainCommit s = .next (after' (s.finish
        { id := d.id, status := .chainError, detail := some (.chain .tableFull),
          result := some (resultWord d.blocksRead c.block 0 0) }))) ∧
    (¬ (d.mode = .merge ∧ 8 < table.length) → 1 < M.watches.toList.countP (·.tempSource) →
      ∀ (i : Fin 8) (w : StagedWatch), st.watches[i] = some w → w.watch.tempSource = true →
      (∀ (j : Fin 8) (x : StagedWatch), st.watches[j] = some x → x.watch.tempSource = true →
        x.block ≤ w.block) →
      exec .chainCommit s = .next (after' (s.finish
        { id := d.id, status := .chainError, detail := some (.chain .badEntry),
          result := some (resultWord d.blocksRead w.block 0 0) }))) ∧
    (¬ (d.mode = .merge ∧ 8 < table.length) →
      ((∀ i : Fin 8, st.watches[i] = none) ∨ M.watches.toList.countP (·.tempSource) ≤ 1) →
      exec .chainCommit s = .next (after'
        ((s.setLane l { M with waiters := if M.inSync then [] else M.waiters }).finishAll
          (completionOrder s.table
            [{ id := d.id, status := .ok, detail := none,
               result := some (resultWord d.blocksRead
                 (addresses.countP fun x =>
                   decide ((L.image.get x).base ≠ base x (L.image.get x)))
                 (table.length + 16 * (st.watches.toList.countP Option.isSome))
                 M.image.queue.length) }]
            (if M.inSync then M.waiterCompletions .ok else []))))) ∧
    ∀ u : State,
      (u.loader.queue = [] →
        u.nextLoad = { u with loader := { u.loader with active := none, staging := Staging.reset } }) ∧
      ∀ q qs, u.loader.queue = q :: qs →
        u.nextLoad = { u with
          transfers := u.transfers ++ [.blockRead q.first false],
          loader := { u.loader with
            queue := qs, staging := Staging.reset,
            active := some { id := q.id, lane := q.lane, mode := q.mode, stage := .read q.first,
                             position := 1, blocksRead := 0 } } }

/-- REPORT_WRITE_START and REPORT_WRITE_END (R155, R156): the command completes OK with the lane state and queue
length of its capture, HOST_MEMORY on an error, ABORTED after STOP. -/
def Obligations.ReportsAreWritten : Prop :=
  ∀ (s u : State) (id : CmdId) (a : HostAddr) (report : List Byte) (ts : List Transfer),
    u = s.afterTransfer ts →
    (s.transfers = .reportWrite id a report false :: ts →
      exec .reportWriteStart s = .next { s with transfers := .reportWrite id a report true :: ts }) ∧
    (s.transfers = .reportWrite id a report true :: ts →
      (s.device = .resetting → ∀ result, exec (.reportWriteEnd result) s = .next u) ∧
      (s.device ≠ .resetting → s.stopped id = true → ∀ result,
        exec (.reportWriteEnd result) s =
          .next (u.finish { id := id, status := .aborted, detail := none, result := none })) ∧
      (s.device ≠ .resetting → s.stopped id = false →
        exec (.reportWriteEnd .ok) s =
          .next (u.finish
            { id := id, status := .ok, detail := none,
              result := some (resultWord (byteAt report 0).toNat (byteAt report 19).toNat 0 0) }) ∧
        exec (.reportWriteEnd .error) s =
          .next (u.finish { id := id, status := .hostMemory, detail := none, result := none })))

/-! ### Ports and lanes -/

/-- A lane's next transaction (R26, R30, R75, R76, Table 3-1): in ACTIVE retry, VERIFY, ACK, CHECK, direct
request, POLL, WB in this order; in PROBING retry, ACK, CHECK; in QUIESCED and FAULTED a direct request's
retry, then the direct request; none in the other states. -/
def Obligations.NextTransactionInOrder : Prop :=
  ∀ (L : Lane) (verify direct poll wb : Option Choice),
    verify = (if L.verifyDue then
      (addresses.find? fun a => decide ((L.image.get a).state = .pending)).map .verify else none) →
    direct = L.directs.head?.map (fun r => .direct
      (match r.value with
       | none => .directRead r.addr
       | some v => .directWrite r.addr v)) →
    poll = (match L.round with
      | some (.polling p) =>
        ([0, 1, 2, 3, 4, 5, 6, 7].find? fun i : Fin 8 =>
          decide ((∀ j ∈ p, j < i) ∧ L.watches[i].state = .active)).map
            fun i => .poll i L.watches[i].address
      | some .atCheck => none
      | none => none) →
    wb = L.image.queue.head?.map (fun a => .wb a ((L.image.get a).intended.getD 0)) →
    (∀ tx, L.retryDue = some tx → L.choice =
      if L.state = .quiescing ∨ L.state = .detaching ∨ L.state = .detached then none
      else some (.retry tx)) ∧
    (L.retryDue = none → L.choice =
      match L.state with
      | .active =>
        if verify.isSome then verify else if L.ackDue then some .ack
        else if L.checkDue then some .check else if direct.isSome then direct
        else if poll.isSome then poll else wb
      | .probing => if L.ackDue then some .ack else if L.checkDue then some .check else none
      | .quiesced => direct
      | .faulted => direct
      | .quiescing => none
      | .detaching => none
      | .detached => none)

/-- PORT_GRANT (R27, R74, R76, R79, R81, R94): the first select after the pointer whose lane offers is granted;
the pointer moves, the port is BUSY with the transaction; a WB makes the queue head PENDING with its intended
value in flight. A port that is BUSY or not enabled grants nothing. That a round of the granted lane with its
CHECK taken, nothing left to poll and no POLL outstanding ends at this grant is the model's reading of R94 and
spec/95 (notes/assumptions/12.md). -/
def Obligations.PortGrantsInTurn : Prop :=
  ∀ (s : State) (p sel : Fin 4),
    ((s.ports[p].enabled = false ∨ s.ports[p].frame ≠ none) → exec (.portGrant p) s = .next s) ∧
    (s.ports[p].enabled = true → s.ports[p].frame = none → s.BindingsDistinct →
      ((∀ l : Fin 16, s.lanes[l].state ≠ .detached → s.lanes[l].binding.map (·.port) = some p →
          s.lanes[l].choice = none) → exec (.portGrant p) s = .next s) ∧
      ∀ (l : Fin 16) (L M : Lane) (c : Choice),
        L = s.lanes[l] → L.state ≠ .detached → L.binding = some { port := p, select := sel } →
        L.choice = some c →
        (∀ m : Fin 16, ∀ b : Binding, s.lanes[m].state ≠ .detached → s.lanes[m].binding = some b →
          b.port = p →
          (b.select - s.ports[p].pointer - 1).val < (sel - s.ports[p].pointer - 1).val →
            s.lanes[m].choice = none) →
        (L.RoundGoesOn none → M = L) → (¬ L.RoundGoesOn none → M = { L with round := none }) →
        exec (.portGrant p) s = .next { s with
          ports := s.ports.set p
            { s.ports[p] with
              pointer := sel,
              frame := some { lane := l, tx :=
                match c with
                | .retry tx => tx
                | .verify a => .verify a
                | .ack => .ack
                | .check => .check
                | .direct tx => tx
                | .poll i a => .poll i a
                | .wb a v => .wb a v } },
          lanes := s.lanes.set l
            (match c with
             | .retry _ => { M with retryDue := none }
             | .verify _ => { M with verifyDue := false }
             | .ack => { M with retryCount := 0 }
             | .check => { M with retryCount := 0 }
             | .direct _ => M
             | .poll _ _ => { M with retryCount := 0, stalePoll := false }
             | .wb a _ => { M with image := M.image.mapEntries fun b e =>
                 if b = a then
                   { e with state := .pending, inFlight := e.intended, attempts := 0 } else e }) })

/-- FRAME_END of a WB or VERIFY frame of an ACTIVE lane whose entry is PENDING (R31 to R38, R41, R57, R58,
Tables 2-1 and 2-2): `ended` is re-derivation by R16, `refused` a refusal by the chip. The orders of
completions and of the release are those of notes/assumptions/9.md and 8.md. -/
def Obligations.WriteFrameEnds : Prop :=
  ∀ (s : State) (p : Fin 4) (l : Fin 16) (L : Lane) (tx : Tx) (ans : FrameAnswer) (o : FrameOutcome)
    (x : Nat) (e : Entry) (ended : Option Byte → Entry)
    (refused : Option Byte → RefusalReason → Entry)
    (told : RefusalReason → Option Byte → List Event) (put : Entry → Lane),
    L = s.lanes[l] → L.state = .active → L.purpose = none → x ∈ addresses → e = L.image.get x →
    e.state = .pending →
    (∀ b ∈ addresses, (L.image.get b).state = .pending → b = x) → L.image.QueueExact →
    Ending s p l tx ans o →
    (∀ applied, ended applied =
      match e.intended with
      | none => { Entry.reset with base := e.base, hold := e.hold, cal := e.cal }
      | some v => { e with applied := applied, inFlight := none, attempts := 0, refusal := none,
                           state := if applied = some v then .clean else .dirty }) →
    (∀ applied reason, refused applied reason =
      if e.intended = e.inFlight then
        { e with applied := applied, inFlight := none, attempts := 0, refusal := some reason,
                 state := .refused }
      else ended applied) →
    (∀ reason readBack, told reason readBack =
      if e.intended = e.inFlight then [.writeRefused l x (e.inFlight.getD 0) reason readBack]
      else []) →
    (∀ n, put n = { L with image := L.image.modify x fun _ => n }) →
    (∀ v u, tx = .wb x v → o = .done u →
      (L.options.verify = true → exec (.frameEnd p ans) s =
        .next (s.frameLeft p l { L with verifyDue := true } [] [] []).release) ∧
      (L.options.verify = false → exec (.frameEnd p ans) s =
        .next (s.frameLeft p l (put (ended e.inFlight)) [] [] []).release)) ∧
    (∀ v, tx = .wb x v → o = .failed .nak →
      exec (.frameEnd p ans) s =
        .next (s.frameLeft p l (put (refused e.applied .nak)) (told .nak none) [] []).release) ∧
    (tx = .verify x → ∀ v, o = .done v →
      (e.inFlight = some v → exec (.frameEnd p ans) s =
        .next (s.frameLeft p l (put (ended e.inFlight)) [] [] []).release) ∧
      (e.inFlight ≠ some v → e.attempts < L.options.retryLimit → exec (.frameEnd p ans) s =
        .next (s.frameLeft p l
          { put { e with attempts := e.attempts + 1 } with
            retryDue := some (.wb x (e.inFlight.getD 0)) } [] [] []).release) ∧
      (e.inFlight ≠ some v → L.options.retryLimit ≤ e.attempts → exec (.frameEnd p ans) s =
        .next (s.frameLeft p l (put (refused (some v) .mismatch)) (told .mismatch (some v))
          [] []).release)) ∧
    (tx = .verify x → o = .failed .nak →
      exec (.frameEnd p ans) s =
        .next (s.frameLeft p l (put (refused none .nak)) (told .nak none) [] []).release) ∧
    (∀ f, (tx = .verify x ∨ ∃ v, tx = .wb x v) → (f = .noResponse ∨ f = .parity) → o = .failed f →
      (e.attempts < L.options.retryLimit → exec (.frameEnd p ans) s =
        .next (s.frameLeft p l
          { put { e with attempts := e.attempts + 1 } with retryDue := some tx } [] [] []).release) ∧
      (L.options.retryLimit ≤ e.attempts → exec (.frameEnd p ans) s =
        .next (s.frameLeft p l (put (ended none)).faulted [.linkFault l .active tx.kind x f] []
          (L.waiters.map fun w =>
            { id := w.id, status := .laneFault, detail := none,
              result := some (resultWord 5 (put (ended none)).image.queue.length 0 0) })).release))

/-- FRAME_END of a CHECK or ACK of a PROBING or ACTIVE lane (R50 to R57, R73, R76, R94): the probe's course
and its result, restart handling with CHIP_RESTART, retries, and the fault of a probe or of an ACTIVE lane.
The orders of completions and of the release are those of notes/assumptions/9.md and 8.md. -/
def Obligations.ProbeAndRestart : Prop :=
  ∀ (s : State) (p : Fin 4) (l : Fin 16) (L M : Lane) (tx : Tx) (ans : FrameAnswer) (o : FrameOutcome)
    (probed : Bool → List Completion) (checked : Option Round) (count : Nat),
    L = s.lanes[l] → L.retryDue = none → L.image.QueueExact →
    (∀ a ∈ addresses, (L.image.get a).state ≠ .pending) → Ending s p l tx ans o →
    (∀ found, probed found = L.transition.toList.map fun id =>
      { id := id, status := .ok, detail := none,
        result := match L.purpose with
          | some .attach => some (resultWord found.toNat 0 0 0)
          | some .resume => some (resultWord found.toNat L.restartCount 0 0)
          | none => none }) →
    checked = (if ∃ i : Fin 8, L.watches[i].state = .active then some (.polling none) else none) →
    count = min (L.restartCount + 1) 255 →
    M = { L with checkDue := false, ackDue := true, restartCount := count, image := L.image.rebuild } →
    (L.state = .probing →
      (∀ v : Byte, tx = .check → o = .done v → v.getLsbD 7 = false → exec (.frameEnd p ans) s =
        .next (s.frameLeft p l
          { L with state := .active, purpose := none, transition := none, checkDue := false,
                   pollTimer := 0 } [] (probed false) []).release) ∧
      (∀ v : Byte, tx = .check → o = .done v → v.getLsbD 7 = true → L.purpose = some .attach →
        exec (.frameEnd p ans) s =
          .next (s.frameLeft p l { L with checkDue := false, ackDue := true } [] [] []).release) ∧
      (∀ v : Byte, tx = .check → o = .done v → v.getLsbD 7 = true → L.purpose = some .resume →
        exec (.frameEnd p ans) s =
          .next (s.frameLeft p l M [.chipRestart l count .probing M.image.queue.length]
            [] []).release) ∧
      (∀ v, tx = .ack → o = .done v → exec (.frameEnd p ans) s =
        .next (s.frameLeft p l
          { L with state := .active, purpose := none, transition := none, ackDue := false,
                   pollTimer := 0 } [] (probed true) []).release) ∧
      ∀ f, (tx = .check ∨ tx = .ack) → o = .failed f →
        (f ≠ .nak → L.retryCount < L.options.retryLimit → exec (.frameEnd p ans) s =
          .next (s.frameLeft p l
            { L with retryDue := some tx, retryCount := L.retryCount + 1 } [] [] []).release) ∧
        (f = .nak ∨ L.options.retryLimit ≤ L.retryCount → exec (.frameEnd p ans) s =
          .next (s.frameLeft p l { L.faulted with transition := none }
            [.linkFault l .probing tx.kind 0 f]
            (L.transition.toList.map fun id =>
              { id := id, status := .linkFault, detail := some (.outcome f), result := none })
            (L.waiters.map fun w =>
              { id := w.id, status := .laneFault, detail := none,
                result := some (resultWord 5 L.image.queue.length 0 0) })).release)) ∧
    (L.state = .active → L.purpose = none →
      (∀ v : Byte, tx = .check → L.round = some .atCheck → o = .done v → v.getLsbD 7 = false →
        exec (.frameEnd p ans) s =
          .next (s.frameLeft p l { L with checkDue := false, round := checked } [] [] []).release) ∧
      (∀ v : Byte, tx = .check → L.round = some .atCheck → o = .done v → v.getLsbD 7 = true →
        exec (.frameEnd p ans) s =
          .next (s.frameLeft p l { M with round := checked }
            [.chipRestart l count .active M.image.queue.length] [] []).release) ∧
      (∀ v, tx = .ack → o = .done v → exec (.frameEnd p ans) s =
        .next (s.frameLeft p l { L with ackDue := false } [] [] []).release) ∧
      ∀ f, (tx = .check ∨ tx = .ack) → o = .failed f →
        (f ≠ .nak → L.retryCount < L.options.retryLimit → exec (.frameEnd p ans) s =
          .next (s.frameLeft p l
            { L with retryDue := some tx, retryCount := L.retryCount + 1 } [] [] []).release) ∧
        (f = .nak ∨ L.options.retryLimit ≤ L.retryCount → exec (.frameEnd p ans) s =
          .next (s.frameLeft p l L.faulted [.linkFault l .active tx.kind 0 f] []
            (L.waiters.map fun w =>
              { id := w.id, status := .laneFault, detail := none,
                result := some (resultWord 5 L.image.queue.length 0 0) })).release))

/-- FRAME_END of a POLL of an ACTIVE lane (R94, R95, R98, R100, R101, R104, R107): the comparison and its
events, the hand-off of a temperature, the suspension, a stale POLL without effect, and the round's course.
The orders of completions and of the release are those of notes/assumptions/9.md and 8.md. -/
def Obligations.PollFrameEnds : Prop :=
  ∀ (s : State) (p : Fin 4) (l : Fin 16) (L : Lane) (i : Fin 8) (x : Nat) (ans : FrameAnswer)
    (o : FrameOutcome) (w : Watch) (left : Vector Watch 8 → Option Round),
    L = s.lanes[l] → L.state = .active → L.purpose = none → L.retryDue = none →
    L.image.QueueExact → (∀ a ∈ addresses, (L.image.get a).state ≠ .pending) →
    (∃ q, L.round = some (.polling q)) → Ending s p l (.poll i x) ans o → w = L.watches[i] →
    (∀ ws, left ws = if ∃ j : Fin 8, i < j ∧ ws[j].state = .active then some (.polling (some i))
      else none) →
    (L.stalePoll = true → (o = .failed .nak ∨ ∃ v, o = .done v) → exec (.frameEnd p ans) s =
      .next (s.frameLeft p l { L with round := left L.watches, stalePoll := false } [] [] []).release) ∧
    (L.stalePoll = false → ∀ (v : Byte) (n : Watch) (ws : Vector Watch 8) (out : LaneOut), o = .done v →
      n = w.compare L.options v → ws = L.watches.set i n →
      out = (if w.tempSource then Lane.handOff l { L with watches := ws } v
        else { lane := { L with watches := ws }, events := [], done := [], waiters := [] }) →
      exec (.frameEnd p ans) s =
        .next (s.frameLeft p l { out.lane with round := left ws, stalePoll := false }
          ((if w.eventEnable then
              [(WatchFlag.al, w.flags.al, n.flags.al), (WatchFlag.ah, w.flags.ah, n.flags.ah),
               (WatchFlag.wl, w.flags.wl, n.flags.wl), (WatchFlag.wh, w.flags.wh, n.flags.wh)].filterMap
                fun c => if c.2.1 = c.2.2 then none
                  else some (if c.2.2 then .watchRaise l i w.address c.1 v
                    else .watchFall l i w.address c.1 v)
            else []) ++ out.events) [] []).release) ∧
    (L.stalePoll = false → o = .failed .nak → exec (.frameEnd p ans) s =
      .next (s.frameLeft p l
        { L with watches := L.watches.set i { w with state := .suspended },
                 round := left (L.watches.set i { w with state := .suspended }) }
        [.watchRefused l i w.address] [] []).release) ∧
    ∀ f, (f = .noResponse ∨ f = .parity) → o = .failed f →
      (L.retryCount < L.options.retryLimit → exec (.frameEnd p ans) s =
        .next (s.frameLeft p l
          { L with retryDue := some (.poll i x), retryCount := L.retryCount + 1 } [] [] []).release) ∧
      (L.options.retryLimit ≤ L.retryCount → exec (.frameEnd p ans) s =
        .next (s.frameLeft p l L.faulted [.linkFault l .active .poll x f] []
          (L.waiters.map fun w =>
            { id := w.id, status := .laneFault, detail := none,
              result := some (resultWord 5 L.image.queue.length 0 0) })).release)

/-- FRAME_END of the head direct request's frame outside QUIESCING and DETACHING (R14, R85, R87 to R89): a
retry, or the end with its completion, and what the image learns. The orders of completions and of the release
are those of notes/assumptions/9.md and 8.md. -/
def Obligations.DirectFrameEnds : Prop :=
  ∀ (s : State) (p : Fin 4) (l : Fin 16) (L : Lane) (d : DirectReq) (rest : List DirectReq) (tx : Tx)
    (ans : FrameAnswer) (o : FrameOutcome) (stopped : Bool) (learned : Option Byte → Image)
    (ends : Image → Status → Option Detail → Option Byte → Answer),
    L = s.lanes[l] →
    (L.state = .probing ∨ L.state = .active ∨ L.state = .quiesced ∨ L.state = .faulted) →
    L.directs = d :: rest →
    tx = (match d.value with
      | none => .directRead d.addr
      | some v => .directWrite d.addr v) →
    Ending s p l tx ans o → stopped = s.stopped d.id →
    (∀ a ∈ addresses, (L.image.get a).state ≠ .pending) →
    (∀ v, learned v = L.image.mapEntries fun a e =>
      if a ≠ d.addr ∨ e.intended = none ∨ e.applied = v then e
      else if e.intended = v then { e with applied := v, state := .clean, refusal := none }
      else if e.state = .clean ∨ e.state = .dirty then
        { e with applied := v, state := .dirty, refusal := none }
      else if e.state = .refused then { e with applied := v }
      else e) →
    (∀ a ∈ addresses, (L.image.get a).state = .unmanaged → (L.image.get a).intended = none) →
    (∀ im st detail value, ends im st detail value =
      .next (s.frameLeft p l { L with directs := rest, image := im } []
        [{ id := d.id, status := if stopped then .aborted else st,
           detail := if stopped then none else detail,
           result := some (resultWord (value.getD 0).toNat d.retries
             (if (im.get d.addr).intended = none then 0xFF
              else entryStateCode (im.get d.addr).state) value.isSome.toNat) }] []).release) →
    (∀ v, o = .done v →
      (d.value = none → exec (.frameEnd p ans) s = ends (learned (some v)) .ok none (some v)) ∧
      ∀ u, d.value = some u → exec (.frameEnd p ans) s = ends (learned (some u)) .ok none none) ∧
    (o = .failed .nak → exec (.frameEnd p ans) s =
      ends L.image .nak none none) ∧
    ∀ f, (f = .noResponse ∨ f = .parity) → o = .failed f →
      (stopped = false → d.retries < L.options.retryLimit → exec (.frameEnd p ans) s =
        .next (s.frameLeft p l
          { L with directs := { d with retries := d.retries + 1 } :: rest,
                   retryDue := if L.state = .probing then none else some tx } [] [] []).release) ∧
      ((stopped = true ∨ L.options.retryLimit ≤ d.retries) →
        (d.value = none → exec (.frameEnd p ans) s =
          ends L.image .linkFault (some (.outcome f)) none) ∧
        (d.value ≠ none → exec (.frameEnd p ans) s =
          ends (learned none) .linkFault (some (.outcome f)) none))

/-- FRAME_END of a QUIESCING lane (R40, R60; that a write raises no WRITE_REFUSED here is the reading of
notes/assumptions/28.md): the lane becomes QUIESCED and the QUIESCE completes OK with the address of a write
ended short and a failure it took. What that result carries (the address alone after a mismatch with an
attempt left or where a VERIFY was due, kind and outcome alone for an exhausted write, both where a retry was
left) is the model's reading (notes/assumptions/11.md). FRAME_END of a DETACHING lane (R64) and in RESETTING
(R82). The orders of completions and of the release are those of notes/assumptions/9.md and 8.md. -/
def Obligations.LastFrameEnds : Prop :=
  ∀ (s : State) (p : Fin 4) (l : Fin 16) (L : Lane) (tx : Tx) (ans : FrameAnswer) (o : FrameOutcome)
    (kind outcome : Nat) (ends : LaneOut → Option Nat → Nat → Nat → Answer),
    L = s.lanes[l] → s.ports[p].frame = some { lane := l, tx := tx } →
    (s.device = .resetting →
      exec (.frameEnd p ans) s = .next { s with ports := s.ports.set p Port.reset }) ∧
    (Ending s p l tx ans o → L.state = .detaching →
      exec (.frameEnd p ans) s =
        .next (s.frameLeft p l Lane.reset []
          (L.transition.toList.map fun id =>
            { id := id, status := .ok, detail := none, result := none }) []).release) ∧
    (Ending s p l tx ans o → L.state = .quiescing →
      (∀ out short k f, ends out short k f =
        .next (s.frameLeft p l
          { out.lane with state := .quiesced, transition := none, retryCount := 0, stalePoll := false }
          out.events
          (out.done ++ L.transition.toList.map fun id =>
            { id := id, status := .ok, detail := none,
              result := some (resultWord (short.getD 0xFF) k f 0) }) []).release) →
      (kind, outcome) = (match o with
        | .done _ => (0xFF, 0)
        | .failed f => (txKindCode tx.kind, failureCode f)) →
      (tx = .check → exec (.frameEnd p ans) s = ends L.out none kind outcome) ∧
      (tx = .ack → exec (.frameEnd p ans) s =
        ends (Lane.out { L with ackDue := false }) none kind outcome) ∧
      (∀ i x, tx = .poll i x →
        ((o = .failed .noResponse ∨ o = .failed .parity) →
          exec (.frameEnd p ans) s = ends L.out none kind outcome) ∧
        (o = .failed .nak ∨ (∃ v, o = .done v) →
          exec (.frameEnd p ans) s = ends (L.pollEffect l i o) none 0xFF 0)) ∧
      (∀ d rest, tx.isDirect = true → L.directs = d :: rest →
        exec (.frameEnd p ans) s = ends (L.takeDirect (s.stopped d.id) o) none 0xFF 0) ∧
      ∀ (x : Nat) (e : Entry) (ended : Option Byte → Entry)
        (refused : Option Byte → RefusalReason → Entry) (put : Entry → LaneOut),
        x ∈ addresses → e = L.image.get x → e.state = .pending → L.image.QueueExact →
        (∀ applied, ended applied =
          match e.intended with
          | none => { Entry.reset with base := e.base, hold := e.hold, cal := e.cal }
          | some v => { e with applied := applied, inFlight := none, attempts := 0, refusal := none,
                               state := if applied = some v then .clean else .dirty }) →
        (∀ applied reason, refused applied reason =
          if e.intended = e.inFlight then
            { e with applied := applied, inFlight := none, attempts := 0, refusal := some reason,
                     state := .refused }
          else ended applied) →
        (∀ n, put n = Lane.out { L with image := L.image.modify x fun _ => n }) →
        (∀ v, tx = .wb x v →
          (∀ u, o = .done u → L.options.verify = false →
            exec (.frameEnd p ans) s = ends (put (ended e.inFlight)) none 0xFF 0) ∧
          (∀ u, o = .done u → L.options.verify = true →
            exec (.frameEnd p ans) s = ends (put (ended none)) (some x) 0xFF 0) ∧
          (o = .failed .nak →
            exec (.frameEnd p ans) s = ends (put (refused e.applied .nak)) none 0xFF 0)) ∧
        (tx = .verify x →
          (∀ u, o = .done u → e.inFlight = some u →
            exec (.frameEnd p ans) s = ends (put (ended e.inFlight)) none 0xFF 0) ∧
          (∀ u, o = .done u → e.inFlight ≠ some u → e.attempts < L.options.retryLimit →
            exec (.frameEnd p ans) s = ends (put (ended none)) (some x) 0xFF 0) ∧
          (∀ u, o = .done u → e.inFlight ≠ some u → L.options.retryLimit ≤ e.attempts →
            exec (.frameEnd p ans) s = ends (put (refused (some u) .mismatch)) none 0xFF 0) ∧
          (o = .failed .nak →
            exec (.frameEnd p ans) s = ends (put (refused none .nak)) none 0xFF 0)) ∧
        ((tx = .verify x ∨ ∃ v, tx = .wb x v) → (o = .failed .noResponse ∨ o = .failed .parity) →
          (e.attempts < L.options.retryLimit →
            exec (.frameEnd p ans) s = ends (put (ended none)) (some x) kind outcome) ∧
          (L.options.retryLimit ≤ e.attempts →
            exec (.frameEnd p ans) s = ends (put (ended none)) none kind outcome)))

/-- POLL_TICK (R92, R93, R97): in ACTIVE it begins a round with a CHECK due, or is skipped with the overrun
count raised; in another attached state it is ignored (`Lane.Ticked`). SYNC_TIMEOUT (R67): a waiter with a limit
completes TIMEOUT, alone. That these two commands stand for "the time has come", so that POLL_TICK acts whatever
the poll timer holds and sets it to 0, and SYNC_TIMEOUT whatever remains of the waiter's limit, is the model's
choice (notes/assumptions/4.md); that a round with nothing left to poll is over at the tick, which then begins
the next, is its reading of R94 (notes/assumptions/12.md). -/
def Obligations.TicksAtALane : Prop :=
  ∀ (s : State) (l : Fin 16) (L : Lane), L = s.lanes[l] →
    (s.device = .resetting → exec (.pollTick l) s = .next s ∧
      ∀ ring tag, exec (.syncTimeout l ring tag) s = .next s) ∧
    (s.device ≠ .resetting →
    (L.state = .detached ∨ L.options.pollPeriod = 0 → exec (.pollTick l) s = .next s) ∧
    (L.state ≠ .detached → L.options.pollPeriod ≠ 0 →
      ∃ M, L.Ticked M (s.inFlight l) ∧ exec (.pollTick l) s = .next (s.setLane l M)) ∧
    ∀ (ring : Fin 4) (tag : Tag) (id : CmdId), id = { ring := ring, tag := tag } →
      ((∃ w ∈ L.waiters, w.id = id ∧ w.remaining ≠ none) →
        exec (.syncTimeout l ring tag) s =
          .next ((s.setLane l
            { L with waiters := L.waiters.filter fun w => decide (w.id ≠ id) }).finish
              { id := id, status := .timeout, detail := none,
                result := some (resultWord (laneStateCode L.state) L.image.queue.length 0 0) })) ∧
      ((∀ w ∈ L.waiters, w.id = id → w.remaining = none) →
        exec (.syncTimeout l ring tag) s = .next s))
end

