-- ==== Sys2Proof/Laws/State.lean ====
section
/-! SUPPORT. What each named update of the state leaves as it is, one lemma for each field, and what it
writes. Later proofs cite these and never unfold an update. -/

namespace Sys2Proof.Machine

variable (s : State)

/-! ### `setLane` -/

@[simp] theorem State.setLane_device (l : Fin 16) (L : Lane) : (s.setLane l L).device = s.device := rfl
@[simp] theorem State.setLane_errorCode (l : Fin 16) (L : Lane) :
    (s.setLane l L).errorCode = s.errorCode := rfl
@[simp] theorem State.setLane_badPost (l : Fin 16) (L : Lane) : (s.setLane l L).badPost = s.badPost := rfl
@[simp] theorem State.setLane_badReturn (l : Fin 16) (L : Lane) :
    (s.setLane l L).badReturn = s.badReturn := rfl
@[simp] theorem State.setLane_intState (l : Fin 16) (L : Lane) :
    (s.setLane l L).intState = s.intState := rfl
@[simp] theorem State.setLane_intEnable (l : Fin 16) (L : Lane) :
    (s.setLane l L).intEnable = s.intEnable := rfl
@[simp] theorem State.setLane_setupBase (l : Fin 16) (L : Lane) :
    (s.setLane l L).setupBase = s.setupBase := rfl
@[simp] theorem State.setLane_messages (l : Fin 16) (L : Lane) :
    (s.setLane l L).messages = s.messages := rfl
@[simp] theorem State.setLane_rings (l : Fin 16) (L : Lane) : (s.setLane l L).rings = s.rings := rfl
@[simp] theorem State.setLane_intakePointer (l : Fin 16) (L : Lane) :
    (s.setLane l L).intakePointer = s.intakePointer := rfl
@[simp] theorem State.setLane_cq (l : Fin 16) (L : Lane) : (s.setLane l L).cq = s.cq := rfl
@[simp] theorem State.setLane_eq (l : Fin 16) (L : Lane) : (s.setLane l L).eq = s.eq := rfl
@[simp] theorem State.setLane_table (l : Fin 16) (L : Lane) : (s.setLane l L).table = s.table := rfl
@[simp] theorem State.setLane_finishList (l : Fin 16) (L : Lane) :
    (s.setLane l L).finishList = s.finishList := rfl
@[simp] theorem State.setLane_loader (l : Fin 16) (L : Lane) : (s.setLane l L).loader = s.loader := rfl
@[simp] theorem State.setLane_lanes (l : Fin 16) (L : Lane) : (s.setLane l L).lanes = s.lanes.set l L := rfl
@[simp] theorem State.setLane_ports (l : Fin 16) (L : Lane) : (s.setLane l L).ports = s.ports := rfl
@[simp] theorem State.setLane_transfers (l : Fin 16) (L : Lane) :
    (s.setLane l L).transfers = s.transfers := rfl
@[simp] theorem State.setLane_pending (l : Fin 16) (L : Lane) : (s.setLane l L).pending = s.pending := rfl

/-! ### `setPort` -/

@[simp] theorem State.setPort_device (p : Fin 4) (P : Port) : (s.setPort p P).device = s.device := rfl
@[simp] theorem State.setPort_errorCode (p : Fin 4) (P : Port) :
    (s.setPort p P).errorCode = s.errorCode := rfl
@[simp] theorem State.setPort_badPost (p : Fin 4) (P : Port) : (s.setPort p P).badPost = s.badPost := rfl
@[simp] theorem State.setPort_badReturn (p : Fin 4) (P : Port) :
    (s.setPort p P).badReturn = s.badReturn := rfl
@[simp] theorem State.setPort_intState (p : Fin 4) (P : Port) : (s.setPort p P).intState = s.intState := rfl
@[simp] theorem State.setPort_intEnable (p : Fin 4) (P : Port) :
    (s.setPort p P).intEnable = s.intEnable := rfl
@[simp] theorem State.setPort_setupBase (p : Fin 4) (P : Port) :
    (s.setPort p P).setupBase = s.setupBase := rfl
@[simp] theorem State.setPort_messages (p : Fin 4) (P : Port) : (s.setPort p P).messages = s.messages := rfl
@[simp] theorem State.setPort_rings (p : Fin 4) (P : Port) : (s.setPort p P).rings = s.rings := rfl
@[simp] theorem State.setPort_intakePointer (p : Fin 4) (P : Port) :
    (s.setPort p P).intakePointer = s.intakePointer := rfl
@[simp] theorem State.setPort_cq (p : Fin 4) (P : Port) : (s.setPort p P).cq = s.cq := rfl
@[simp] theorem State.setPort_eq (p : Fin 4) (P : Port) : (s.setPort p P).eq = s.eq := rfl
@[simp] theorem State.setPort_table (p : Fin 4) (P : Port) : (s.setPort p P).table = s.table := rfl
@[simp] theorem State.setPort_finishList (p : Fin 4) (P : Port) :
    (s.setPort p P).finishList = s.finishList := rfl
@[simp] theorem State.setPort_loader (p : Fin 4) (P : Port) : (s.setPort p P).loader = s.loader := rfl
@[simp] theorem State.setPort_lanes (p : Fin 4) (P : Port) : (s.setPort p P).lanes = s.lanes := rfl
@[simp] theorem State.setPort_ports (p : Fin 4) (P : Port) : (s.setPort p P).ports = s.ports.set p P := rfl
@[simp] theorem State.setPort_transfers (p : Fin 4) (P : Port) :
    (s.setPort p P).transfers = s.transfers := rfl
@[simp] theorem State.setPort_pending (p : Fin 4) (P : Port) : (s.setPort p P).pending = s.pending := rfl

/-! ### `setRing` -/

@[simp] theorem State.setRing_device (q : Fin 4) (r : SubRing) : (s.setRing q r).device = s.device := rfl
@[simp] theorem State.setRing_errorCode (q : Fin 4) (r : SubRing) :
    (s.setRing q r).errorCode = s.errorCode := rfl
@[simp] theorem State.setRing_badPost (q : Fin 4) (r : SubRing) : (s.setRing q r).badPost = s.badPost := rfl
@[simp] theorem State.setRing_badReturn (q : Fin 4) (r : SubRing) :
    (s.setRing q r).badReturn = s.badReturn := rfl
@[simp] theorem State.setRing_intState (q : Fin 4) (r : SubRing) :
    (s.setRing q r).intState = s.intState := rfl
@[simp] theorem State.setRing_intEnable (q : Fin 4) (r : SubRing) :
    (s.setRing q r).intEnable = s.intEnable := rfl
@[simp] theorem State.setRing_setupBase (q : Fin 4) (r : SubRing) :
    (s.setRing q r).setupBase = s.setupBase := rfl
@[simp] theorem State.setRing_messages (q : Fin 4) (r : SubRing) :
    (s.setRing q r).messages = s.messages := rfl
@[simp] theorem State.setRing_rings (q : Fin 4) (r : SubRing) :
    (s.setRing q r).rings = s.rings.set q r := rfl
@[simp] theorem State.setRing_intakePointer (q : Fin 4) (r : SubRing) :
    (s.setRing q r).intakePointer = s.intakePointer := rfl
@[simp] theorem State.setRing_cq (q : Fin 4) (r : SubRing) : (s.setRing q r).cq = s.cq := rfl
@[simp] theorem State.setRing_eq (q : Fin 4) (r : SubRing) : (s.setRing q r).eq = s.eq := rfl
@[simp] theorem State.setRing_table (q : Fin 4) (r : SubRing) : (s.setRing q r).table = s.table := rfl
@[simp] theorem State.setRing_finishList (q : Fin 4) (r : SubRing) :
    (s.setRing q r).finishList = s.finishList := rfl
@[simp] theorem State.setRing_loader (q : Fin 4) (r : SubRing) : (s.setRing q r).loader = s.loader := rfl
@[simp] theorem State.setRing_lanes (q : Fin 4) (r : SubRing) : (s.setRing q r).lanes = s.lanes := rfl
@[simp] theorem State.setRing_ports (q : Fin 4) (r : SubRing) : (s.setRing q r).ports = s.ports := rfl
@[simp] theorem State.setRing_transfers (q : Fin 4) (r : SubRing) :
    (s.setRing q r).transfers = s.transfers := rfl
@[simp] theorem State.setRing_pending (q : Fin 4) (r : SubRing) : (s.setRing q r).pending = s.pending := rfl

/-! ### `addLost` -/

@[simp] theorem State.addLost_device (n : Nat) : (s.addLost n).device = s.device := rfl
@[simp] theorem State.addLost_errorCode (n : Nat) : (s.addLost n).errorCode = s.errorCode := rfl
@[simp] theorem State.addLost_badPost (n : Nat) : (s.addLost n).badPost = s.badPost := rfl
@[simp] theorem State.addLost_badReturn (n : Nat) : (s.addLost n).badReturn = s.badReturn := rfl
@[simp] theorem State.addLost_intState (n : Nat) : (s.addLost n).intState = s.intState := rfl
@[simp] theorem State.addLost_intEnable (n : Nat) : (s.addLost n).intEnable = s.intEnable := rfl
@[simp] theorem State.addLost_setupBase (n : Nat) : (s.addLost n).setupBase = s.setupBase := rfl
@[simp] theorem State.addLost_messages (n : Nat) : (s.addLost n).messages = s.messages := rfl
@[simp] theorem State.addLost_rings (n : Nat) : (s.addLost n).rings = s.rings := rfl
@[simp] theorem State.addLost_intakePointer (n : Nat) : (s.addLost n).intakePointer = s.intakePointer := rfl
@[simp] theorem State.addLost_cq (n : Nat) : (s.addLost n).cq = s.cq := rfl
@[simp] theorem State.addLost_eq (n : Nat) :
    (s.addLost n).eq = { s.eq with lost := min (s.eq.lost + n) Config.countMax } := rfl
@[simp] theorem State.addLost_table (n : Nat) : (s.addLost n).table = s.table := rfl
@[simp] theorem State.addLost_finishList (n : Nat) : (s.addLost n).finishList = s.finishList := rfl
@[simp] theorem State.addLost_loader (n : Nat) : (s.addLost n).loader = s.loader := rfl
@[simp] theorem State.addLost_lanes (n : Nat) : (s.addLost n).lanes = s.lanes := rfl
@[simp] theorem State.addLost_ports (n : Nat) : (s.addLost n).ports = s.ports := rfl
@[simp] theorem State.addLost_transfers (n : Nat) : (s.addLost n).transfers = s.transfers := rfl
@[simp] theorem State.addLost_pending (n : Nat) : (s.addLost n).pending = s.pending := rfl

/-! ### `ask` -/

@[simp] theorem State.ask_device (t : Transfer) : (s.ask t).device = s.device := rfl
@[simp] theorem State.ask_errorCode (t : Transfer) : (s.ask t).errorCode = s.errorCode := rfl
@[simp] theorem State.ask_badPost (t : Transfer) : (s.ask t).badPost = s.badPost := rfl
@[simp] theorem State.ask_badReturn (t : Transfer) : (s.ask t).badReturn = s.badReturn := rfl
@[simp] theorem State.ask_intState (t : Transfer) : (s.ask t).intState = s.intState := rfl
@[simp] theorem State.ask_intEnable (t : Transfer) : (s.ask t).intEnable = s.intEnable := rfl
@[simp] theorem State.ask_setupBase (t : Transfer) : (s.ask t).setupBase = s.setupBase := rfl
@[simp] theorem State.ask_messages (t : Transfer) : (s.ask t).messages = s.messages := rfl
@[simp] theorem State.ask_rings (t : Transfer) : (s.ask t).rings = s.rings := rfl
@[simp] theorem State.ask_intakePointer (t : Transfer) : (s.ask t).intakePointer = s.intakePointer := rfl
@[simp] theorem State.ask_cq (t : Transfer) : (s.ask t).cq = s.cq := rfl
@[simp] theorem State.ask_eq (t : Transfer) : (s.ask t).eq = s.eq := rfl
@[simp] theorem State.ask_table (t : Transfer) : (s.ask t).table = s.table := rfl
@[simp] theorem State.ask_finishList (t : Transfer) : (s.ask t).finishList = s.finishList := rfl
@[simp] theorem State.ask_loader (t : Transfer) : (s.ask t).loader = s.loader := rfl
@[simp] theorem State.ask_lanes (t : Transfer) : (s.ask t).lanes = s.lanes := rfl
@[simp] theorem State.ask_ports (t : Transfer) : (s.ask t).ports = s.ports := rfl
@[simp] theorem State.ask_transfers (t : Transfer) : (s.ask t).transfers = s.transfers ++ [t] := rfl
@[simp] theorem State.ask_pending (t : Transfer) : (s.ask t).pending = s.pending := rfl

/-! ### `sendDue` -/

@[simp] theorem State.sendDue_device : (s.sendDue).device = s.device := rfl
@[simp] theorem State.sendDue_errorCode : (s.sendDue).errorCode = s.errorCode := rfl
@[simp] theorem State.sendDue_badPost : (s.sendDue).badPost = s.badPost := rfl
@[simp] theorem State.sendDue_badReturn : (s.sendDue).badReturn = s.badReturn := rfl
@[simp] theorem State.sendDue_intState : (s.sendDue).intState = s.intState := rfl
@[simp] theorem State.sendDue_intEnable : (s.sendDue).intEnable = s.intEnable := rfl
@[simp] theorem State.sendDue_setupBase : (s.sendDue).setupBase = s.setupBase := rfl
@[simp] theorem State.sendDue_messages :
    (s.sendDue).messages = s.messages + (s.transfers.takeWhile Transfer.isMessage).length := rfl
@[simp] theorem State.sendDue_rings : (s.sendDue).rings = s.rings := rfl
@[simp] theorem State.sendDue_intakePointer : (s.sendDue).intakePointer = s.intakePointer := rfl
@[simp] theorem State.sendDue_cq : (s.sendDue).cq = s.cq := rfl
@[simp] theorem State.sendDue_eq : (s.sendDue).eq = s.eq := rfl
@[simp] theorem State.sendDue_table : (s.sendDue).table = s.table := rfl
@[simp] theorem State.sendDue_finishList : (s.sendDue).finishList = s.finishList := rfl
@[simp] theorem State.sendDue_loader : (s.sendDue).loader = s.loader := rfl
@[simp] theorem State.sendDue_lanes : (s.sendDue).lanes = s.lanes := rfl
@[simp] theorem State.sendDue_ports : (s.sendDue).ports = s.ports := rfl
@[simp] theorem State.sendDue_transfers :
    (s.sendDue).transfers = s.transfers.dropWhile Transfer.isMessage := rfl
@[simp] theorem State.sendDue_pending : (s.sendDue).pending = s.pending := rfl

/-! ### `withdraw` -/

@[simp] theorem State.withdraw_device (p : Transfer → Bool) : (s.withdraw p).device = s.device := rfl
@[simp] theorem State.withdraw_errorCode (p : Transfer → Bool) :
    (s.withdraw p).errorCode = s.errorCode := rfl
@[simp] theorem State.withdraw_badPost (p : Transfer → Bool) : (s.withdraw p).badPost = s.badPost := rfl
@[simp] theorem State.withdraw_badReturn (p : Transfer → Bool) :
    (s.withdraw p).badReturn = s.badReturn := rfl
@[simp] theorem State.withdraw_intState (p : Transfer → Bool) : (s.withdraw p).intState = s.intState := rfl
@[simp] theorem State.withdraw_intEnable (p : Transfer → Bool) :
    (s.withdraw p).intEnable = s.intEnable := rfl
@[simp] theorem State.withdraw_setupBase (p : Transfer → Bool) :
    (s.withdraw p).setupBase = s.setupBase := rfl
@[simp] theorem State.withdraw_messages (p : Transfer → Bool) :
    (s.withdraw p).messages = s.messages +
      ((s.transfers.filter fun t => t.started || !p t).takeWhile Transfer.isMessage).length := rfl
@[simp] theorem State.withdraw_rings (p : Transfer → Bool) : (s.withdraw p).rings = s.rings := rfl
@[simp] theorem State.withdraw_intakePointer (p : Transfer → Bool) :
    (s.withdraw p).intakePointer = s.intakePointer := rfl
@[simp] theorem State.withdraw_cq (p : Transfer → Bool) : (s.withdraw p).cq = s.cq := rfl
@[simp] theorem State.withdraw_eq (p : Transfer → Bool) : (s.withdraw p).eq = s.eq := rfl
@[simp] theorem State.withdraw_table (p : Transfer → Bool) : (s.withdraw p).table = s.table := rfl
@[simp] theorem State.withdraw_finishList (p : Transfer → Bool) :
    (s.withdraw p).finishList = s.finishList := rfl
@[simp] theorem State.withdraw_loader (p : Transfer → Bool) : (s.withdraw p).loader = s.loader := rfl
@[simp] theorem State.withdraw_lanes (p : Transfer → Bool) : (s.withdraw p).lanes = s.lanes := rfl
@[simp] theorem State.withdraw_ports (p : Transfer → Bool) : (s.withdraw p).ports = s.ports := rfl
@[simp] theorem State.withdraw_transfers (p : Transfer → Bool) :
    (s.withdraw p).transfers =
      (s.transfers.filter fun t => t.started || !p t).dropWhile Transfer.isMessage := rfl
@[simp] theorem State.withdraw_pending (p : Transfer → Bool) : (s.withdraw p).pending = s.pending := rfl

/-! ### `ended` -/

@[simp] theorem State.ended_device (ts : List Transfer) : (s.ended ts).device = s.device := rfl
@[simp] theorem State.ended_errorCode (ts : List Transfer) : (s.ended ts).errorCode = s.errorCode := rfl
@[simp] theorem State.ended_badPost (ts : List Transfer) : (s.ended ts).badPost = s.badPost := rfl
@[simp] theorem State.ended_badReturn (ts : List Transfer) : (s.ended ts).badReturn = s.badReturn := rfl
@[simp] theorem State.ended_intState (ts : List Transfer) : (s.ended ts).intState = s.intState := rfl
@[simp] theorem State.ended_intEnable (ts : List Transfer) : (s.ended ts).intEnable = s.intEnable := rfl
@[simp] theorem State.ended_setupBase (ts : List Transfer) : (s.ended ts).setupBase = s.setupBase := rfl
@[simp] theorem State.ended_messages (ts : List Transfer) :
    (s.ended ts).messages = s.messages + (ts.takeWhile Transfer.isMessage).length := rfl
@[simp] theorem State.ended_rings (ts : List Transfer) : (s.ended ts).rings = s.rings := rfl
@[simp] theorem State.ended_intakePointer (ts : List Transfer) :
    (s.ended ts).intakePointer = s.intakePointer := rfl
@[simp] theorem State.ended_cq (ts : List Transfer) : (s.ended ts).cq = s.cq := rfl
@[simp] theorem State.ended_eq (ts : List Transfer) : (s.ended ts).eq = s.eq := rfl
@[simp] theorem State.ended_table (ts : List Transfer) : (s.ended ts).table = s.table := rfl
@[simp] theorem State.ended_finishList (ts : List Transfer) : (s.ended ts).finishList = s.finishList := rfl
@[simp] theorem State.ended_loader (ts : List Transfer) : (s.ended ts).loader = s.loader := rfl
@[simp] theorem State.ended_lanes (ts : List Transfer) : (s.ended ts).lanes = s.lanes := rfl
@[simp] theorem State.ended_ports (ts : List Transfer) : (s.ended ts).ports = s.ports := rfl
@[simp] theorem State.ended_transfers (ts : List Transfer) :
    (s.ended ts).transfers = ts.dropWhile Transfer.isMessage := rfl
@[simp] theorem State.ended_pending (ts : List Transfer) : (s.ended ts).pending = s.pending := rfl

/-! ### `addEntry` -/

@[simp] theorem State.addEntry_device (e : OctEntry) : (s.addEntry e).device = s.device := rfl
@[simp] theorem State.addEntry_errorCode (e : OctEntry) : (s.addEntry e).errorCode = s.errorCode := rfl
@[simp] theorem State.addEntry_badPost (e : OctEntry) : (s.addEntry e).badPost = s.badPost := rfl
@[simp] theorem State.addEntry_badReturn (e : OctEntry) : (s.addEntry e).badReturn = s.badReturn := rfl
@[simp] theorem State.addEntry_intState (e : OctEntry) : (s.addEntry e).intState = s.intState := rfl
@[simp] theorem State.addEntry_intEnable (e : OctEntry) : (s.addEntry e).intEnable = s.intEnable := rfl
@[simp] theorem State.addEntry_setupBase (e : OctEntry) : (s.addEntry e).setupBase = s.setupBase := rfl
@[simp] theorem State.addEntry_messages (e : OctEntry) : (s.addEntry e).messages = s.messages := rfl
@[simp] theorem State.addEntry_rings (e : OctEntry) : (s.addEntry e).rings = s.rings := rfl
@[simp] theorem State.addEntry_intakePointer (e : OctEntry) :
    (s.addEntry e).intakePointer = s.intakePointer := rfl
@[simp] theorem State.addEntry_cq (e : OctEntry) : (s.addEntry e).cq = s.cq := rfl
@[simp] theorem State.addEntry_eq (e : OctEntry) : (s.addEntry e).eq = s.eq := rfl
@[simp] theorem State.addEntry_table (e : OctEntry) : (s.addEntry e).table = s.table ++ [e] := rfl
@[simp] theorem State.addEntry_finishList (e : OctEntry) : (s.addEntry e).finishList = s.finishList := rfl
@[simp] theorem State.addEntry_loader (e : OctEntry) : (s.addEntry e).loader = s.loader := rfl
@[simp] theorem State.addEntry_lanes (e : OctEntry) : (s.addEntry e).lanes = s.lanes := rfl
@[simp] theorem State.addEntry_ports (e : OctEntry) : (s.addEntry e).ports = s.ports := rfl
@[simp] theorem State.addEntry_transfers (e : OctEntry) : (s.addEntry e).transfers = s.transfers := rfl
@[simp] theorem State.addEntry_pending (e : OctEntry) : (s.addEntry e).pending = s.pending := rfl

/-! ### `setActive` -/

@[simp] theorem State.setActive_device (id : CmdId) : (s.setActive id).device = s.device := rfl
@[simp] theorem State.setActive_errorCode (id : CmdId) : (s.setActive id).errorCode = s.errorCode := rfl
@[simp] theorem State.setActive_badPost (id : CmdId) : (s.setActive id).badPost = s.badPost := rfl
@[simp] theorem State.setActive_badReturn (id : CmdId) : (s.setActive id).badReturn = s.badReturn := rfl
@[simp] theorem State.setActive_intState (id : CmdId) : (s.setActive id).intState = s.intState := rfl
@[simp] theorem State.setActive_intEnable (id : CmdId) : (s.setActive id).intEnable = s.intEnable := rfl
@[simp] theorem State.setActive_setupBase (id : CmdId) : (s.setActive id).setupBase = s.setupBase := rfl
@[simp] theorem State.setActive_messages (id : CmdId) : (s.setActive id).messages = s.messages := rfl
@[simp] theorem State.setActive_rings (id : CmdId) : (s.setActive id).rings = s.rings := rfl
@[simp] theorem State.setActive_intakePointer (id : CmdId) :
    (s.setActive id).intakePointer = s.intakePointer := rfl
@[simp] theorem State.setActive_cq (id : CmdId) : (s.setActive id).cq = s.cq := rfl
@[simp] theorem State.setActive_eq (id : CmdId) : (s.setActive id).eq = s.eq := rfl
@[simp] theorem State.setActive_finishList (id : CmdId) : (s.setActive id).finishList = s.finishList := rfl
@[simp] theorem State.setActive_loader (id : CmdId) : (s.setActive id).loader = s.loader := rfl
@[simp] theorem State.setActive_lanes (id : CmdId) : (s.setActive id).lanes = s.lanes := rfl
@[simp] theorem State.setActive_ports (id : CmdId) : (s.setActive id).ports = s.ports := rfl
@[simp] theorem State.setActive_transfers (id : CmdId) : (s.setActive id).transfers = s.transfers := rfl
@[simp] theorem State.setActive_pending (id : CmdId) : (s.setActive id).pending = s.pending := rfl

/-! ### `refuseRecord` -/

@[simp] theorem State.refuseRecord_device (id : CmdId) (lane : Option Byte) (st : Status) :
    (s.refuseRecord id lane st).device = s.device := rfl
@[simp] theorem State.refuseRecord_errorCode (id : CmdId) (lane : Option Byte) (st : Status) :
    (s.refuseRecord id lane st).errorCode = s.errorCode := rfl
@[simp] theorem State.refuseRecord_badPost (id : CmdId) (lane : Option Byte) (st : Status) :
    (s.refuseRecord id lane st).badPost = s.badPost := rfl
@[simp] theorem State.refuseRecord_badReturn (id : CmdId) (lane : Option Byte) (st : Status) :
    (s.refuseRecord id lane st).badReturn = s.badReturn := rfl
@[simp] theorem State.refuseRecord_intState (id : CmdId) (lane : Option Byte) (st : Status) :
    (s.refuseRecord id lane st).intState = s.intState := rfl
@[simp] theorem State.refuseRecord_intEnable (id : CmdId) (lane : Option Byte) (st : Status) :
    (s.refuseRecord id lane st).intEnable = s.intEnable := rfl
@[simp] theorem State.refuseRecord_setupBase (id : CmdId) (lane : Option Byte) (st : Status) :
    (s.refuseRecord id lane st).setupBase = s.setupBase := rfl
@[simp] theorem State.refuseRecord_messages (id : CmdId) (lane : Option Byte) (st : Status) :
    (s.refuseRecord id lane st).messages = s.messages := rfl
@[simp] theorem State.refuseRecord_rings (id : CmdId) (lane : Option Byte) (st : Status) :
    (s.refuseRecord id lane st).rings = s.rings := rfl
@[simp] theorem State.refuseRecord_intakePointer (id : CmdId) (lane : Option Byte) (st : Status) :
    (s.refuseRecord id lane st).intakePointer = s.intakePointer := rfl
@[simp] theorem State.refuseRecord_cq (id : CmdId) (lane : Option Byte) (st : Status) :
    (s.refuseRecord id lane st).cq = s.cq := rfl
@[simp] theorem State.refuseRecord_eq (id : CmdId) (lane : Option Byte) (st : Status) :
    (s.refuseRecord id lane st).eq = s.eq := rfl
@[simp] theorem State.refuseRecord_table (id : CmdId) (lane : Option Byte) (st : Status) :
    (s.refuseRecord id lane st).table = s.table := rfl
@[simp] theorem State.refuseRecord_finishList (id : CmdId) (lane : Option Byte) (st : Status) :
    (s.refuseRecord id lane st).finishList = s.finishList ++ [.refusal id lane st] := rfl
@[simp] theorem State.refuseRecord_loader (id : CmdId) (lane : Option Byte) (st : Status) :
    (s.refuseRecord id lane st).loader = s.loader := rfl
@[simp] theorem State.refuseRecord_lanes (id : CmdId) (lane : Option Byte) (st : Status) :
    (s.refuseRecord id lane st).lanes = s.lanes := rfl
@[simp] theorem State.refuseRecord_ports (id : CmdId) (lane : Option Byte) (st : Status) :
    (s.refuseRecord id lane st).ports = s.ports := rfl
@[simp] theorem State.refuseRecord_transfers (id : CmdId) (lane : Option Byte) (st : Status) :
    (s.refuseRecord id lane st).transfers = s.transfers := rfl
@[simp] theorem State.refuseRecord_pending (id : CmdId) (lane : Option Byte) (st : Status) :
    (s.refuseRecord id lane st).pending = s.pending := rfl

/-! ### `ringsOff` -/

@[simp] theorem State.ringsOff_device : (s.ringsOff).device = s.device := rfl
@[simp] theorem State.ringsOff_errorCode : (s.ringsOff).errorCode = s.errorCode := rfl
@[simp] theorem State.ringsOff_badPost : (s.ringsOff).badPost = s.badPost := rfl
@[simp] theorem State.ringsOff_badReturn : (s.ringsOff).badReturn = s.badReturn := rfl
@[simp] theorem State.ringsOff_intState : (s.ringsOff).intState = s.intState := rfl
@[simp] theorem State.ringsOff_intEnable : (s.ringsOff).intEnable = s.intEnable := rfl
@[simp] theorem State.ringsOff_setupBase : (s.ringsOff).setupBase = s.setupBase := rfl
@[simp] theorem State.ringsOff_messages : (s.ringsOff).messages = s.messages := rfl
@[simp] theorem State.ringsOff_intakePointer : (s.ringsOff).intakePointer = s.intakePointer := rfl
@[simp] theorem State.ringsOff_cq : (s.ringsOff).cq = s.cq := rfl
@[simp] theorem State.ringsOff_eq : (s.ringsOff).eq = s.eq := rfl
@[simp] theorem State.ringsOff_table : (s.ringsOff).table = s.table := rfl
@[simp] theorem State.ringsOff_finishList : (s.ringsOff).finishList = s.finishList := rfl
@[simp] theorem State.ringsOff_loader : (s.ringsOff).loader = s.loader := rfl
@[simp] theorem State.ringsOff_lanes : (s.ringsOff).lanes = s.lanes := rfl
@[simp] theorem State.ringsOff_ports : (s.ringsOff).ports = s.ports := rfl
@[simp] theorem State.ringsOff_transfers : (s.ringsOff).transfers = s.transfers := rfl
@[simp] theorem State.ringsOff_pending : (s.ringsOff).pending = s.pending := rfl

/-! ### `markStopped` -/

@[simp] theorem State.markStopped_device : (s.markStopped).device = s.device := rfl
@[simp] theorem State.markStopped_errorCode : (s.markStopped).errorCode = s.errorCode := rfl
@[simp] theorem State.markStopped_badPost : (s.markStopped).badPost = s.badPost := rfl
@[simp] theorem State.markStopped_badReturn : (s.markStopped).badReturn = s.badReturn := rfl
@[simp] theorem State.markStopped_intState : (s.markStopped).intState = s.intState := rfl
@[simp] theorem State.markStopped_intEnable : (s.markStopped).intEnable = s.intEnable := rfl
@[simp] theorem State.markStopped_setupBase : (s.markStopped).setupBase = s.setupBase := rfl
@[simp] theorem State.markStopped_messages : (s.markStopped).messages = s.messages := rfl
@[simp] theorem State.markStopped_rings : (s.markStopped).rings = s.rings := rfl
@[simp] theorem State.markStopped_intakePointer : (s.markStopped).intakePointer = s.intakePointer := rfl
@[simp] theorem State.markStopped_cq : (s.markStopped).cq = s.cq := rfl
@[simp] theorem State.markStopped_eq : (s.markStopped).eq = s.eq := rfl
@[simp] theorem State.markStopped_finishList : (s.markStopped).finishList = s.finishList := rfl
@[simp] theorem State.markStopped_loader : (s.markStopped).loader = s.loader := rfl
@[simp] theorem State.markStopped_lanes : (s.markStopped).lanes = s.lanes := rfl
@[simp] theorem State.markStopped_ports : (s.markStopped).ports = s.ports := rfl
@[simp] theorem State.markStopped_transfers : (s.markStopped).transfers = s.transfers := rfl
@[simp] theorem State.markStopped_pending : (s.markStopped).pending = s.pending := rfl

/-! ### `stopLanes` -/

@[simp] theorem State.stopLanes_device : (s.stopLanes).device = s.device := rfl
@[simp] theorem State.stopLanes_errorCode : (s.stopLanes).errorCode = s.errorCode := rfl
@[simp] theorem State.stopLanes_badPost : (s.stopLanes).badPost = s.badPost := rfl
@[simp] theorem State.stopLanes_badReturn : (s.stopLanes).badReturn = s.badReturn := rfl
@[simp] theorem State.stopLanes_intState : (s.stopLanes).intState = s.intState := rfl
@[simp] theorem State.stopLanes_intEnable : (s.stopLanes).intEnable = s.intEnable := rfl
@[simp] theorem State.stopLanes_setupBase : (s.stopLanes).setupBase = s.setupBase := rfl
@[simp] theorem State.stopLanes_messages : (s.stopLanes).messages = s.messages := rfl
@[simp] theorem State.stopLanes_rings : (s.stopLanes).rings = s.rings := rfl
@[simp] theorem State.stopLanes_intakePointer : (s.stopLanes).intakePointer = s.intakePointer := rfl
@[simp] theorem State.stopLanes_cq : (s.stopLanes).cq = s.cq := rfl
@[simp] theorem State.stopLanes_eq : (s.stopLanes).eq = s.eq := rfl
@[simp] theorem State.stopLanes_table : (s.stopLanes).table = s.table := rfl
@[simp] theorem State.stopLanes_finishList : (s.stopLanes).finishList = s.finishList := rfl
@[simp] theorem State.stopLanes_loader : (s.stopLanes).loader = s.loader := rfl
@[simp] theorem State.stopLanes_ports : (s.stopLanes).ports = s.ports := rfl
@[simp] theorem State.stopLanes_transfers : (s.stopLanes).transfers = s.transfers := rfl
@[simp] theorem State.stopLanes_pending : (s.stopLanes).pending = s.pending := rfl

/-! ### One lane, port or ring after its update -/

@[simp] theorem State.setLane_get_self (l : Fin 16) (L : Lane) : (s.setLane l L).lanes[l] = L := by
  simp [State.setLane]

theorem State.setLane_get_ne {l m : Fin 16} (L : Lane) (h : m ≠ l) :
    (s.setLane l L).lanes[m] = s.lanes[m] := by
  have h' : (l : Nat) ≠ m := fun e => h (Fin.ext e.symm)
  simp [State.setLane, h']

@[simp] theorem State.setPort_get_self (p : Fin 4) (P : Port) : (s.setPort p P).ports[p] = P := by
  simp [State.setPort]

theorem State.setPort_get_ne {p q : Fin 4} (P : Port) (h : q ≠ p) :
    (s.setPort p P).ports[q] = s.ports[q] := by
  have h' : (p : Nat) ≠ q := fun e => h (Fin.ext e.symm)
  simp [State.setPort, h']

@[simp] theorem State.setRing_get_self (q : Fin 4) (r : SubRing) : (s.setRing q r).rings[q] = r := by
  simp [State.setRing]

theorem State.setRing_get_ne {p q : Fin 4} (r : SubRing) (h : q ≠ p) :
    (s.setRing p r).rings[q] = s.rings[q] := by
  have h' : (p : Nat) ≠ q := fun e => h (Fin.ext e.symm)
  simp [State.setRing, h']

/-! ### `messageOnRise` -/

@[simp] theorem State.messageOnRise_device (b : Bool) :
    (s.messageOnRise b).device = s.device := by
  unfold State.messageOnRise; split <;> rfl
@[simp] theorem State.messageOnRise_errorCode (b : Bool) :
    (s.messageOnRise b).errorCode = s.errorCode := by
  unfold State.messageOnRise; split <;> rfl
@[simp] theorem State.messageOnRise_badPost (b : Bool) :
    (s.messageOnRise b).badPost = s.badPost := by
  unfold State.messageOnRise; split <;> rfl
@[simp] theorem State.messageOnRise_badReturn (b : Bool) :
    (s.messageOnRise b).badReturn = s.badReturn := by
  unfold State.messageOnRise; split <;> rfl
@[simp] theorem State.messageOnRise_intState (b : Bool) :
    (s.messageOnRise b).intState = s.intState := by
  unfold State.messageOnRise; split <;> rfl
@[simp] theorem State.messageOnRise_intEnable (b : Bool) :
    (s.messageOnRise b).intEnable = s.intEnable := by
  unfold State.messageOnRise; split <;> rfl
@[simp] theorem State.messageOnRise_setupBase (b : Bool) :
    (s.messageOnRise b).setupBase = s.setupBase := by
  unfold State.messageOnRise; split <;> rfl
@[simp] theorem State.messageOnRise_rings (b : Bool) :
    (s.messageOnRise b).rings = s.rings := by
  unfold State.messageOnRise; split <;> rfl
@[simp] theorem State.messageOnRise_intakePointer (b : Bool) :
    (s.messageOnRise b).intakePointer = s.intakePointer := by
  unfold State.messageOnRise; split <;> rfl
@[simp] theorem State.messageOnRise_cq (b : Bool) :
    (s.messageOnRise b).cq = s.cq := by
  unfold State.messageOnRise; split <;> rfl
@[simp] theorem State.messageOnRise_eq (b : Bool) :
    (s.messageOnRise b).eq = s.eq := by
  unfold State.messageOnRise; split <;> rfl
@[simp] theorem State.messageOnRise_table (b : Bool) :
    (s.messageOnRise b).table = s.table := by
  unfold State.messageOnRise; split <;> rfl
@[simp] theorem State.messageOnRise_finishList (b : Bool) :
    (s.messageOnRise b).finishList = s.finishList := by
  unfold State.messageOnRise; split <;> rfl
@[simp] theorem State.messageOnRise_loader (b : Bool) :
    (s.messageOnRise b).loader = s.loader := by
  unfold State.messageOnRise; split <;> rfl
@[simp] theorem State.messageOnRise_lanes (b : Bool) :
    (s.messageOnRise b).lanes = s.lanes := by
  unfold State.messageOnRise; split <;> rfl
@[simp] theorem State.messageOnRise_ports (b : Bool) :
    (s.messageOnRise b).ports = s.ports := by
  unfold State.messageOnRise; split <;> rfl
@[simp] theorem State.messageOnRise_pending (b : Bool) :
    (s.messageOnRise b).pending = s.pending := by
  unfold State.messageOnRise; split <;> rfl

/-! ### `setCauses` -/

@[simp] theorem State.setCauses_device (c : Causes) :
    (s.setCauses c).device = s.device := by
  simp [State.setCauses]
@[simp] theorem State.setCauses_errorCode (c : Causes) :
    (s.setCauses c).errorCode = s.errorCode := by
  simp [State.setCauses]
@[simp] theorem State.setCauses_badPost (c : Causes) :
    (s.setCauses c).badPost = s.badPost := by
  simp [State.setCauses]
@[simp] theorem State.setCauses_badReturn (c : Causes) :
    (s.setCauses c).badReturn = s.badReturn := by
  simp [State.setCauses]
@[simp] theorem State.setCauses_intEnable (c : Causes) :
    (s.setCauses c).intEnable = s.intEnable := by
  simp [State.setCauses]
@[simp] theorem State.setCauses_setupBase (c : Causes) :
    (s.setCauses c).setupBase = s.setupBase := by
  simp [State.setCauses]
@[simp] theorem State.setCauses_rings (c : Causes) :
    (s.setCauses c).rings = s.rings := by
  simp [State.setCauses]
@[simp] theorem State.setCauses_intakePointer (c : Causes) :
    (s.setCauses c).intakePointer = s.intakePointer := by
  simp [State.setCauses]
@[simp] theorem State.setCauses_cq (c : Causes) : (s.setCauses c).cq = s.cq := by
  simp [State.setCauses]
@[simp] theorem State.setCauses_eq (c : Causes) : (s.setCauses c).eq = s.eq := by
  simp [State.setCauses]
@[simp] theorem State.setCauses_table (c : Causes) :
    (s.setCauses c).table = s.table := by
  simp [State.setCauses]
@[simp] theorem State.setCauses_finishList (c : Causes) :
    (s.setCauses c).finishList = s.finishList := by
  simp [State.setCauses]
@[simp] theorem State.setCauses_loader (c : Causes) :
    (s.setCauses c).loader = s.loader := by
  simp [State.setCauses]
@[simp] theorem State.setCauses_lanes (c : Causes) :
    (s.setCauses c).lanes = s.lanes := by
  simp [State.setCauses]
@[simp] theorem State.setCauses_ports (c : Causes) :
    (s.setCauses c).ports = s.ports := by
  simp [State.setCauses]
@[simp] theorem State.setCauses_pending (c : Causes) :
    (s.setCauses c).pending = s.pending := by
  simp [State.setCauses]
@[simp] theorem State.setCauses_intState (c : Causes) :
    (s.setCauses c).intState = s.intState.union c := by
  simp [State.setCauses]

/-! ### `raise` -/

@[simp] theorem State.raise_device (e : Event) :
    (s.raise e).device = s.device := by
  unfold State.raise; split <;> [rfl; split <;> rfl]
@[simp] theorem State.raise_errorCode (e : Event) :
    (s.raise e).errorCode = s.errorCode := by
  unfold State.raise; split <;> [rfl; split <;> rfl]
@[simp] theorem State.raise_badPost (e : Event) :
    (s.raise e).badPost = s.badPost := by
  unfold State.raise; split <;> [rfl; split <;> rfl]
@[simp] theorem State.raise_badReturn (e : Event) :
    (s.raise e).badReturn = s.badReturn := by
  unfold State.raise; split <;> [rfl; split <;> rfl]
@[simp] theorem State.raise_intState (e : Event) :
    (s.raise e).intState = s.intState := by
  unfold State.raise; split <;> [rfl; split <;> rfl]
@[simp] theorem State.raise_intEnable (e : Event) :
    (s.raise e).intEnable = s.intEnable := by
  unfold State.raise; split <;> [rfl; split <;> rfl]
@[simp] theorem State.raise_setupBase (e : Event) :
    (s.raise e).setupBase = s.setupBase := by
  unfold State.raise; split <;> [rfl; split <;> rfl]
@[simp] theorem State.raise_messages (e : Event) :
    (s.raise e).messages = s.messages := by
  unfold State.raise; split <;> [rfl; split <;> rfl]
@[simp] theorem State.raise_rings (e : Event) :
    (s.raise e).rings = s.rings := by
  unfold State.raise; split <;> [rfl; split <;> rfl]
@[simp] theorem State.raise_intakePointer (e : Event) :
    (s.raise e).intakePointer = s.intakePointer := by
  unfold State.raise; split <;> [rfl; split <;> rfl]
@[simp] theorem State.raise_cq (e : Event) :
    (s.raise e).cq = s.cq := by
  unfold State.raise; split <;> [rfl; split <;> rfl]
@[simp] theorem State.raise_table (e : Event) :
    (s.raise e).table = s.table := by
  unfold State.raise; split <;> [rfl; split <;> rfl]
@[simp] theorem State.raise_finishList (e : Event) :
    (s.raise e).finishList = s.finishList := by
  unfold State.raise; split <;> [rfl; split <;> rfl]
@[simp] theorem State.raise_loader (e : Event) :
    (s.raise e).loader = s.loader := by
  unfold State.raise; split <;> [rfl; split <;> rfl]
@[simp] theorem State.raise_lanes (e : Event) :
    (s.raise e).lanes = s.lanes := by
  unfold State.raise; split <;> [rfl; split <;> rfl]
@[simp] theorem State.raise_ports (e : Event) :
    (s.raise e).ports = s.ports := by
  unfold State.raise; split <;> [rfl; split <;> rfl]
@[simp] theorem State.raise_transfers (e : Event) :
    (s.raise e).transfers = s.transfers := by
  unfold State.raise; split <;> [rfl; split <;> rfl]
@[simp] theorem State.raise_pending (e : Event) :
    (s.raise e).pending = s.pending := by
  unfold State.raise; split <;> [rfl; split <;> rfl]

/-! ### `raiseAll` -/

@[simp] theorem State.raiseAll_device (es : List Event) :
    (s.raiseAll es).device = s.device := by
  induction es generalizing s with
  | nil => rfl
  | cons e es ih => simpa [State.raiseAll] using (ih (s.raise e)).trans (State.raise_device s e)
@[simp] theorem State.raiseAll_errorCode (es : List Event) :
    (s.raiseAll es).errorCode = s.errorCode := by
  induction es generalizing s with
  | nil => rfl
  | cons e es ih => simpa [State.raiseAll] using (ih (s.raise e)).trans (State.raise_errorCode s e)
@[simp] theorem State.raiseAll_badPost (es : List Event) :
    (s.raiseAll es).badPost = s.badPost := by
  induction es generalizing s with
  | nil => rfl
  | cons e es ih => simpa [State.raiseAll] using (ih (s.raise e)).trans (State.raise_badPost s e)
@[simp] theorem State.raiseAll_badReturn (es : List Event) :
    (s.raiseAll es).badReturn = s.badReturn := by
  induction es generalizing s with
  | nil => rfl
  | cons e es ih => simpa [State.raiseAll] using (ih (s.raise e)).trans (State.raise_badReturn s e)
@[simp] theorem State.raiseAll_intState (es : List Event) :
    (s.raiseAll es).intState = s.intState := by
  induction es generalizing s with
  | nil => rfl
  | cons e es ih => simpa [State.raiseAll] using (ih (s.raise e)).trans (State.raise_intState s e)
@[simp] theorem State.raiseAll_intEnable (es : List Event) :
    (s.raiseAll es).intEnable = s.intEnable := by
  induction es generalizing s with
  | nil => rfl
  | cons e es ih => simpa [State.raiseAll] using (ih (s.raise e)).trans (State.raise_intEnable s e)
@[simp] theorem State.raiseAll_setupBase (es : List Event) :
    (s.raiseAll es).setupBase = s.setupBase := by
  induction es generalizing s with
  | nil => rfl
  | cons e es ih => simpa [State.raiseAll] using (ih (s.raise e)).trans (State.raise_setupBase s e)
@[simp] theorem State.raiseAll_messages (es : List Event) :
    (s.raiseAll es).messages = s.messages := by
  induction es generalizing s with
  | nil => rfl
  | cons e es ih => simpa [State.raiseAll] using (ih (s.raise e)).trans (State.raise_messages s e)
@[simp] theorem State.raiseAll_rings (es : List Event) :
    (s.raiseAll es).rings = s.rings := by
  induction es generalizing s with
  | nil => rfl
  | cons e es ih => simpa [State.raiseAll] using (ih (s.raise e)).trans (State.raise_rings s e)
@[simp] theorem State.raiseAll_intakePointer (es : List Event) :
    (s.raiseAll es).intakePointer = s.intakePointer := by
  induction es generalizing s with
  | nil => rfl
  | cons e es ih => simpa [State.raiseAll] using (ih (s.raise e)).trans (State.raise_intakePointer s e)
@[simp] theorem State.raiseAll_cq (es : List Event) :
    (s.raiseAll es).cq = s.cq := by
  induction es generalizing s with
  | nil => rfl
  | cons e es ih => simpa [State.raiseAll] using (ih (s.raise e)).trans (State.raise_cq s e)
@[simp] theorem State.raiseAll_table (es : List Event) :
    (s.raiseAll es).table = s.table := by
  induction es generalizing s with
  | nil => rfl
  | cons e es ih => simpa [State.raiseAll] using (ih (s.raise e)).trans (State.raise_table s e)
@[simp] theorem State.raiseAll_finishList (es : List Event) :
    (s.raiseAll es).finishList = s.finishList := by
  induction es generalizing s with
  | nil => rfl
  | cons e es ih => simpa [State.raiseAll] using (ih (s.raise e)).trans (State.raise_finishList s e)
@[simp] theorem State.raiseAll_loader (es : List Event) :
    (s.raiseAll es).loader = s.loader := by
  induction es generalizing s with
  | nil => rfl
  | cons e es ih => simpa [State.raiseAll] using (ih (s.raise e)).trans (State.raise_loader s e)
@[simp] theorem State.raiseAll_lanes (es : List Event) :
    (s.raiseAll es).lanes = s.lanes := by
  induction es generalizing s with
  | nil => rfl
  | cons e es ih => simpa [State.raiseAll] using (ih (s.raise e)).trans (State.raise_lanes s e)
@[simp] theorem State.raiseAll_ports (es : List Event) :
    (s.raiseAll es).ports = s.ports := by
  induction es generalizing s with
  | nil => rfl
  | cons e es ih => simpa [State.raiseAll] using (ih (s.raise e)).trans (State.raise_ports s e)
@[simp] theorem State.raiseAll_transfers (es : List Event) :
    (s.raiseAll es).transfers = s.transfers := by
  induction es generalizing s with
  | nil => rfl
  | cons e es ih => simpa [State.raiseAll] using (ih (s.raise e)).trans (State.raise_transfers s e)
@[simp] theorem State.raiseAll_pending (es : List Event) :
    (s.raiseAll es).pending = s.pending := by
  induction es generalizing s with
  | nil => rfl
  | cons e es ih => simpa [State.raiseAll] using (ih (s.raise e)).trans (State.raise_pending s e)

/-! ### `finish` -/

@[simp] theorem State.finish_device (c : Completion) :
    (s.finish c).device = s.device := by
  unfold State.finish; split <;> rfl
@[simp] theorem State.finish_errorCode (c : Completion) :
    (s.finish c).errorCode = s.errorCode := by
  unfold State.finish; split <;> rfl
@[simp] theorem State.finish_badPost (c : Completion) :
    (s.finish c).badPost = s.badPost := by
  unfold State.finish; split <;> rfl
@[simp] theorem State.finish_badReturn (c : Completion) :
    (s.finish c).badReturn = s.badReturn := by
  unfold State.finish; split <;> rfl
@[simp] theorem State.finish_intState (c : Completion) :
    (s.finish c).intState = s.intState := by
  unfold State.finish; split <;> rfl
@[simp] theorem State.finish_intEnable (c : Completion) :
    (s.finish c).intEnable = s.intEnable := by
  unfold State.finish; split <;> rfl
@[simp] theorem State.finish_setupBase (c : Completion) :
    (s.finish c).setupBase = s.setupBase := by
  unfold State.finish; split <;> rfl
@[simp] theorem State.finish_messages (c : Completion) :
    (s.finish c).messages = s.messages := by
  unfold State.finish; split <;> rfl
@[simp] theorem State.finish_rings (c : Completion) :
    (s.finish c).rings = s.rings := by
  unfold State.finish; split <;> rfl
@[simp] theorem State.finish_intakePointer (c : Completion) :
    (s.finish c).intakePointer = s.intakePointer := by
  unfold State.finish; split <;> rfl
@[simp] theorem State.finish_cq (c : Completion) :
    (s.finish c).cq = s.cq := by
  unfold State.finish; split <;> rfl
@[simp] theorem State.finish_eq (c : Completion) :
    (s.finish c).eq = s.eq := by
  unfold State.finish; split <;> rfl
@[simp] theorem State.finish_loader (c : Completion) :
    (s.finish c).loader = s.loader := by
  unfold State.finish; split <;> rfl
@[simp] theorem State.finish_lanes (c : Completion) :
    (s.finish c).lanes = s.lanes := by
  unfold State.finish; split <;> rfl
@[simp] theorem State.finish_ports (c : Completion) :
    (s.finish c).ports = s.ports := by
  unfold State.finish; split <;> rfl
@[simp] theorem State.finish_transfers (c : Completion) :
    (s.finish c).transfers = s.transfers := by
  unfold State.finish; split <;> rfl
@[simp] theorem State.finish_pending (c : Completion) :
    (s.finish c).pending = s.pending := by
  unfold State.finish; split <;> rfl

/-! ### `finishAll` -/

@[simp] theorem State.finishAll_device (cs : List Completion) :
    (s.finishAll cs).device = s.device := by
  induction cs generalizing s with
  | nil => rfl
  | cons c cs ih => simpa [State.finishAll] using (ih (s.finish c)).trans (State.finish_device s c)
@[simp] theorem State.finishAll_errorCode (cs : List Completion) :
    (s.finishAll cs).errorCode = s.errorCode := by
  induction cs generalizing s with
  | nil => rfl
  | cons c cs ih => simpa [State.finishAll] using (ih (s.finish c)).trans (State.finish_errorCode s c)
@[simp] theorem State.finishAll_badPost (cs : List Completion) :
    (s.finishAll cs).badPost = s.badPost := by
  induction cs generalizing s with
  | nil => rfl
  | cons c cs ih => simpa [State.finishAll] using (ih (s.finish c)).trans (State.finish_badPost s c)
@[simp] theorem State.finishAll_badReturn (cs : List Completion) :
    (s.finishAll cs).badReturn = s.badReturn := by
  induction cs generalizing s with
  | nil => rfl
  | cons c cs ih => simpa [State.finishAll] using (ih (s.finish c)).trans (State.finish_badReturn s c)
@[simp] theorem State.finishAll_intState (cs : List Completion) :
    (s.finishAll cs).intState = s.intState := by
  induction cs generalizing s with
  | nil => rfl
  | cons c cs ih => simpa [State.finishAll] using (ih (s.finish c)).trans (State.finish_intState s c)
@[simp] theorem State.finishAll_intEnable (cs : List Completion) :
    (s.finishAll cs).intEnable = s.intEnable := by
  induction cs generalizing s with
  | nil => rfl
  | cons c cs ih => simpa [State.finishAll] using (ih (s.finish c)).trans (State.finish_intEnable s c)
@[simp] theorem State.finishAll_setupBase (cs : List Completion) :
    (s.finishAll cs).setupBase = s.setupBase := by
  induction cs generalizing s with
  | nil => rfl
  | cons c cs ih => simpa [State.finishAll] using (ih (s.finish c)).trans (State.finish_setupBase s c)
@[simp] theorem State.finishAll_messages (cs : List Completion) :
    (s.finishAll cs).messages = s.messages := by
  induction cs generalizing s with
  | nil => rfl
  | cons c cs ih => simpa [State.finishAll] using (ih (s.finish c)).trans (State.finish_messages s c)
@[simp] theorem State.finishAll_rings (cs : List Completion) :
    (s.finishAll cs).rings = s.rings := by
  induction cs generalizing s with
  | nil => rfl
  | cons c cs ih => simpa [State.finishAll] using (ih (s.finish c)).trans (State.finish_rings s c)
@[simp] theorem State.finishAll_intakePointer (cs : List Completion) :
    (s.finishAll cs).intakePointer = s.intakePointer := by
  induction cs generalizing s with
  | nil => rfl
  | cons c cs ih => simpa [State.finishAll] using (ih (s.finish c)).trans (State.finish_intakePointer s c)
@[simp] theorem State.finishAll_cq (cs : List Completion) :
    (s.finishAll cs).cq = s.cq := by
  induction cs generalizing s with
  | nil => rfl
  | cons c cs ih => simpa [State.finishAll] using (ih (s.finish c)).trans (State.finish_cq s c)
@[simp] theorem State.finishAll_eq (cs : List Completion) :
    (s.finishAll cs).eq = s.eq := by
  induction cs generalizing s with
  | nil => rfl
  | cons c cs ih => simpa [State.finishAll] using (ih (s.finish c)).trans (State.finish_eq s c)
@[simp] theorem State.finishAll_loader (cs : List Completion) :
    (s.finishAll cs).loader = s.loader := by
  induction cs generalizing s with
  | nil => rfl
  | cons c cs ih => simpa [State.finishAll] using (ih (s.finish c)).trans (State.finish_loader s c)
@[simp] theorem State.finishAll_lanes (cs : List Completion) :
    (s.finishAll cs).lanes = s.lanes := by
  induction cs generalizing s with
  | nil => rfl
  | cons c cs ih => simpa [State.finishAll] using (ih (s.finish c)).trans (State.finish_lanes s c)
@[simp] theorem State.finishAll_ports (cs : List Completion) :
    (s.finishAll cs).ports = s.ports := by
  induction cs generalizing s with
  | nil => rfl
  | cons c cs ih => simpa [State.finishAll] using (ih (s.finish c)).trans (State.finish_ports s c)
@[simp] theorem State.finishAll_transfers (cs : List Completion) :
    (s.finishAll cs).transfers = s.transfers := by
  induction cs generalizing s with
  | nil => rfl
  | cons c cs ih => simpa [State.finishAll] using (ih (s.finish c)).trans (State.finish_transfers s c)
@[simp] theorem State.finishAll_pending (cs : List Completion) :
    (s.finishAll cs).pending = s.pending := by
  induction cs generalizing s with
  | nil => rfl
  | cons c cs ih => simpa [State.finishAll] using (ih (s.finish c)).trans (State.finish_pending s c)

/-! ### `refuse` -/

@[simp] theorem State.refuse_device (id : CmdId) (st : Status) :
    (s.refuse id st).device = s.device := by
  simp [State.refuse]
@[simp] theorem State.refuse_errorCode (id : CmdId) (st : Status) :
    (s.refuse id st).errorCode = s.errorCode := by
  simp [State.refuse]
@[simp] theorem State.refuse_badPost (id : CmdId) (st : Status) :
    (s.refuse id st).badPost = s.badPost := by
  simp [State.refuse]
@[simp] theorem State.refuse_badReturn (id : CmdId) (st : Status) :
    (s.refuse id st).badReturn = s.badReturn := by
  simp [State.refuse]
@[simp] theorem State.refuse_intState (id : CmdId) (st : Status) :
    (s.refuse id st).intState = s.intState := by
  simp [State.refuse]
@[simp] theorem State.refuse_intEnable (id : CmdId) (st : Status) :
    (s.refuse id st).intEnable = s.intEnable := by
  simp [State.refuse]
@[simp] theorem State.refuse_setupBase (id : CmdId) (st : Status) :
    (s.refuse id st).setupBase = s.setupBase := by
  simp [State.refuse]
@[simp] theorem State.refuse_messages (id : CmdId) (st : Status) :
    (s.refuse id st).messages = s.messages := by
  simp [State.refuse]
@[simp] theorem State.refuse_rings (id : CmdId) (st : Status) :
    (s.refuse id st).rings = s.rings := by
  simp [State.refuse]
@[simp] theorem State.refuse_intakePointer (id : CmdId) (st : Status) :
    (s.refuse id st).intakePointer = s.intakePointer := by
  simp [State.refuse]
@[simp] theorem State.refuse_cq (id : CmdId) (st : Status) :
    (s.refuse id st).cq = s.cq := by
  simp [State.refuse]
@[simp] theorem State.refuse_eq (id : CmdId) (st : Status) :
    (s.refuse id st).eq = s.eq := by
  simp [State.refuse]
@[simp] theorem State.refuse_loader (id : CmdId) (st : Status) :
    (s.refuse id st).loader = s.loader := by
  simp [State.refuse]
@[simp] theorem State.refuse_lanes (id : CmdId) (st : Status) :
    (s.refuse id st).lanes = s.lanes := by
  simp [State.refuse]
@[simp] theorem State.refuse_ports (id : CmdId) (st : Status) :
    (s.refuse id st).ports = s.ports := by
  simp [State.refuse]
@[simp] theorem State.refuse_transfers (id : CmdId) (st : Status) :
    (s.refuse id st).transfers = s.transfers := by
  simp [State.refuse]
@[simp] theorem State.refuse_pending (id : CmdId) (st : Status) :
    (s.refuse id st).pending = s.pending := by
  simp [State.refuse]

/-! ### `applyOut` -/

@[simp] theorem State.applyOut_device (l : Fin 16) (o : LaneOut) :
    (s.applyOut l o).device = s.device := by
  simp [State.applyOut]
@[simp] theorem State.applyOut_errorCode (l : Fin 16) (o : LaneOut) :
    (s.applyOut l o).errorCode = s.errorCode := by
  simp [State.applyOut]
@[simp] theorem State.applyOut_badPost (l : Fin 16) (o : LaneOut) :
    (s.applyOut l o).badPost = s.badPost := by
  simp [State.applyOut]
@[simp] theorem State.applyOut_badReturn (l : Fin 16) (o : LaneOut) :
    (s.applyOut l o).badReturn = s.badReturn := by
  simp [State.applyOut]
@[simp] theorem State.applyOut_intState (l : Fin 16) (o : LaneOut) :
    (s.applyOut l o).intState = s.intState := by
  simp [State.applyOut]
@[simp] theorem State.applyOut_intEnable (l : Fin 16) (o : LaneOut) :
    (s.applyOut l o).intEnable = s.intEnable := by
  simp [State.applyOut]
@[simp] theorem State.applyOut_setupBase (l : Fin 16) (o : LaneOut) :
    (s.applyOut l o).setupBase = s.setupBase := by
  simp [State.applyOut]
@[simp] theorem State.applyOut_messages (l : Fin 16) (o : LaneOut) :
    (s.applyOut l o).messages = s.messages := by
  simp [State.applyOut]
@[simp] theorem State.applyOut_rings (l : Fin 16) (o : LaneOut) :
    (s.applyOut l o).rings = s.rings := by
  simp [State.applyOut]
@[simp] theorem State.applyOut_intakePointer (l : Fin 16) (o : LaneOut) :
    (s.applyOut l o).intakePointer = s.intakePointer := by
  simp [State.applyOut]
@[simp] theorem State.applyOut_cq (l : Fin 16) (o : LaneOut) :
    (s.applyOut l o).cq = s.cq := by
  simp [State.applyOut]
@[simp] theorem State.applyOut_loader (l : Fin 16) (o : LaneOut) :
    (s.applyOut l o).loader = s.loader := by
  simp [State.applyOut]
@[simp] theorem State.applyOut_ports (l : Fin 16) (o : LaneOut) :
    (s.applyOut l o).ports = s.ports := by
  simp [State.applyOut]
@[simp] theorem State.applyOut_transfers (l : Fin 16) (o : LaneOut) :
    (s.applyOut l o).transfers = s.transfers := by
  simp [State.applyOut]
@[simp] theorem State.applyOut_pending (l : Fin 16) (o : LaneOut) :
    (s.applyOut l o).pending = s.pending := by
  simp [State.applyOut]

@[simp] theorem State.applyOut_lanes (l : Fin 16) (o : LaneOut) :
    (s.applyOut l o).lanes = s.lanes.set l o.lane := by simp [State.applyOut]

@[simp] theorem State.applyOut_eq (l : Fin 16) (o : LaneOut) :
    (s.applyOut l o).eq = (s.raiseAll o.events).eq := by
  have h : ∀ (es : List Event) (s t : State), s.eq = t.eq → s.device = t.device →
      (s.raiseAll es).eq = (t.raiseAll es).eq := by
    intro es
    induction es with
    | nil => intro s t h _; exact h
    | cons e es ih =>
      intro s t h hd
      apply ih
      · unfold State.raise
        rw [h, hd]
        split
        · exact h
        · split <;> simp [State.addLost, h]
      · simp [hd]
  simpa [State.applyOut] using h o.events (s.setLane l o.lane) s rfl rfl

@[simp] theorem State.applyOut_get_self (l : Fin 16) (o : LaneOut) :
    (s.applyOut l o).lanes[l] = o.lane := by simp

theorem State.applyOut_get_ne {l m : Fin 16} (o : LaneOut) (h : m ≠ l) :
    (s.applyOut l o).lanes[m] = s.lanes[m] := by
  have h' : (l : Nat) ≠ m := fun e => h (Fin.ext e.symm)
  simp [h']

/-! ### `dropPending` -/

@[simp] theorem State.dropPending_device : (s.dropPending).device = s.device := rfl
@[simp] theorem State.dropPending_errorCode : (s.dropPending).errorCode = s.errorCode := rfl
@[simp] theorem State.dropPending_badPost : (s.dropPending).badPost = s.badPost := rfl
@[simp] theorem State.dropPending_badReturn : (s.dropPending).badReturn = s.badReturn := rfl
@[simp] theorem State.dropPending_intState : (s.dropPending).intState = s.intState := rfl
@[simp] theorem State.dropPending_intEnable : (s.dropPending).intEnable = s.intEnable := rfl
@[simp] theorem State.dropPending_setupBase : (s.dropPending).setupBase = s.setupBase := rfl
@[simp] theorem State.dropPending_messages : (s.dropPending).messages = s.messages := rfl
@[simp] theorem State.dropPending_rings : (s.dropPending).rings = s.rings := rfl
@[simp] theorem State.dropPending_intakePointer : (s.dropPending).intakePointer = s.intakePointer := rfl
@[simp] theorem State.dropPending_cq : (s.dropPending).cq = s.cq := rfl
@[simp] theorem State.dropPending_table : (s.dropPending).table = s.table := rfl
@[simp] theorem State.dropPending_finishList : (s.dropPending).finishList = s.finishList := rfl
@[simp] theorem State.dropPending_loader : (s.dropPending).loader = s.loader := rfl
@[simp] theorem State.dropPending_lanes : (s.dropPending).lanes = s.lanes := rfl
@[simp] theorem State.dropPending_ports : (s.dropPending).ports = s.ports := rfl
@[simp] theorem State.dropPending_transfers : (s.dropPending).transfers = s.transfers := rfl
@[simp] theorem State.dropPending_pending : (s.dropPending).pending = s.pending := rfl

/-! ### `dropAllPending` -/

@[simp] theorem State.dropAllPending_device : (s.dropAllPending).device = s.device := rfl
@[simp] theorem State.dropAllPending_errorCode : (s.dropAllPending).errorCode = s.errorCode := rfl
@[simp] theorem State.dropAllPending_badPost : (s.dropAllPending).badPost = s.badPost := rfl
@[simp] theorem State.dropAllPending_badReturn : (s.dropAllPending).badReturn = s.badReturn := rfl
@[simp] theorem State.dropAllPending_intState : (s.dropAllPending).intState = s.intState := rfl
@[simp] theorem State.dropAllPending_intEnable : (s.dropAllPending).intEnable = s.intEnable := rfl
@[simp] theorem State.dropAllPending_setupBase : (s.dropAllPending).setupBase = s.setupBase := rfl
@[simp] theorem State.dropAllPending_messages : (s.dropAllPending).messages = s.messages := rfl
@[simp] theorem State.dropAllPending_rings : (s.dropAllPending).rings = s.rings := rfl
@[simp] theorem State.dropAllPending_intakePointer :
    (s.dropAllPending).intakePointer = s.intakePointer := rfl
@[simp] theorem State.dropAllPending_cq : (s.dropAllPending).cq = s.cq := rfl
@[simp] theorem State.dropAllPending_table : (s.dropAllPending).table = s.table := rfl
@[simp] theorem State.dropAllPending_finishList : (s.dropAllPending).finishList = s.finishList := rfl
@[simp] theorem State.dropAllPending_loader : (s.dropAllPending).loader = s.loader := rfl
@[simp] theorem State.dropAllPending_lanes : (s.dropAllPending).lanes = s.lanes := rfl
@[simp] theorem State.dropAllPending_ports : (s.dropAllPending).ports = s.ports := rfl
@[simp] theorem State.dropAllPending_transfers : (s.dropAllPending).transfers = s.transfers := rfl
@[simp] theorem State.dropAllPending_pending : (s.dropAllPending).pending = s.pending := rfl

end Sys2Proof.Machine
end

