-- ==== Sys2Proof/Laws/Ops.lean ====
section
/-! SUPPORT. What each shared operation over the whole part can do, said once: raising events, setting
causes, finishing commands, a happening at a lane. -/

namespace Sys2Proof.Machine

/-! ### Raising (R158) -/

/-- An event changes nothing, joins the pending list, or is counted as lost. -/
theorem State.raise_cases (s : State) (e : Event) :
    s.raise e = s ∨
      (s.device = .running ∧ s.eq.ring.occupied + s.eq.pending.length < s.eq.ring.size ∧
        s.raise e = { s with eq := { s.eq with pending := s.eq.pending ++ [e] } }) ∨
      s.raise e = { s with eq := { s.eq with lost := min (s.eq.lost + 1) 65535 } } := by
  unfold State.raise
  split
  · exact .inl rfl
  · split
    · rename_i h
      exact .inr (.inl ⟨h.1, by simpa [EventRing.room] using h.2, rfl⟩)
    · exact .inr (.inr rfl)

@[simp] theorem State.raiseAll_nil (s : State) : s.raiseAll [] = s := rfl

@[simp] theorem State.raiseAll_cons (s : State) (e : Event) (es : List Event) :
    s.raiseAll (e :: es) = (s.raise e).raiseAll es := rfl

theorem State.raiseAll_append (s : State) (es fs : List Event) :
    s.raiseAll (es ++ fs) = (s.raiseAll es).raiseAll fs := List.foldl_append

/-- An event reads the device state and the event ring alone. -/
theorem State.raise_setLane (s : State) (l : Fin 16) (L : Lane) (e : Event) :
    (s.setLane l L).raise e = (s.raise e).setLane l L := by
  by_cases h1 : s.eq.mask.getLsbD e.code = true
  · simp [State.raise, h1]
  · by_cases h2 : s.device = .running ∧ s.eq.room = true <;>
      simp [State.raise, h1, h2, State.setLane, State.addLost]

theorem State.raiseAll_setLane (s : State) (l : Fin 16) (L : Lane) (es : List Event) :
    (s.setLane l L).raiseAll es = (s.raiseAll es).setLane l L := by
  induction es generalizing s with
  | nil => rfl
  | cons e es ih => rw [raiseAll_cons, raiseAll_cons, raise_setLane, ih]

/-! ### The Host Port's list and interrupt messages (R163) -/

/-- With no message at the head nothing is sent. -/
theorem State.sendDue_of_head {s : State} (h : ∀ t ∈ s.transfers.head?, t.isMessage = false) :
    s.sendDue = s := by
  cases s with | mk _ _ _ _ _ _ _ _ _ _ _ _ _ _ _ _ _ transfers _ =>
  cases transfers with
  | nil => rfl
  | cons t ts => simp [State.sendDue, show t.isMessage = false from h t rfl]

/-- After the messages whose turn has come, no message is at the head. -/
theorem State.sendDue_head (s : State) : ∀ t ∈ s.sendDue.transfers.head?, t.isMessage = false := by
  intro t h
  have := List.head?_dropWhile_not Transfer.isMessage s.transfers
  rw [sendDue_transfers] at h
  rwa [Option.mem_def.mp h] at this

/-- Sending messages takes no other transfer from the list. -/
theorem State.sendDue_countP (s : State) {p : Transfer → Bool} (hp : p .message = false) :
    s.sendDue.transfers.countP p = s.transfers.countP p := by
  simp only [sendDue_transfers]
  induction s.transfers with
  | nil => rfl
  | cons t ts ih => cases t <;> simp_all [Transfer.isMessage, List.dropWhile_cons]

/-- A rise of the interrupt condition sends its message at once when the Host Port serves nothing, and puts
it behind the other transfers when it does; with no rise nothing is sent. -/
theorem State.messageOnRise_spec (s : State) (before : Bool) :
    (before = true ∨ interruptCondition s.intState s.intEnable = false →
      s.messageOnRise before = s) ∧
    (before = false → interruptCondition s.intState s.intEnable = true →
      (s.transfers = [] → s.messageOnRise before = { s with messages := s.messages + 1 }) ∧
      ∀ t ts, s.transfers = t :: ts → t.isMessage = false →
        s.messageOnRise before = { s with transfers := s.transfers ++ [.message] }) := by
  refine ⟨fun h => ?_, fun hb hc => ⟨fun ht => ?_, fun t ts ht hm => ?_⟩⟩
  · rw [State.messageOnRise, if_neg]
    rintro ⟨rfl, hc⟩
    simp_all
  · rw [State.messageOnRise, if_pos ⟨hb, hc⟩]
    simp [State.ask, State.sendDue, ht, Transfer.isMessage, List.takeWhile_cons]
  · rw [State.messageOnRise, if_pos ⟨hb, hc⟩, State.sendDue_of_head]
    · rfl
    · simpa [ht] using hm

/-! ### Causes (R162, R163) -/

/-- The causes are set, and one message is sent or queued exactly when the interrupt condition rises. -/
theorem State.setCauses_spec (s : State) (c : Causes) :
    (interruptCondition s.intState s.intEnable = true ∨
        interruptCondition (s.intState.union c) s.intEnable = false →
      s.setCauses c = { s with intState := s.intState.union c }) ∧
    (interruptCondition s.intState s.intEnable = false →
      interruptCondition (s.intState.union c) s.intEnable = true →
      (s.transfers = [] →
        s.setCauses c = { s with intState := s.intState.union c, messages := s.messages + 1 }) ∧
      ∀ t ts, s.transfers = t :: ts → t.isMessage = false →
        s.setCauses c =
          { s with intState := s.intState.union c, transfers := s.transfers ++ [.message] }) :=
  State.messageOnRise_spec { s with intState := s.intState.union c } _

/-- Setting causes adds no transfer but a message. -/
theorem State.setCauses_countP (s : State) (c : Causes) {p : Transfer → Bool} (hp : p .message = false) :
    (s.setCauses c).transfers.countP p = s.transfers.countP p := by
  unfold State.setCauses State.messageOnRise
  split
  · rw [State.sendDue_countP _ hp]; simp [hp]
  · rfl

/-- Setting causes puts no message at the head. -/
theorem State.setCauses_head {s : State} (c : Causes) (h : ∀ t ∈ s.transfers.head?, t.isMessage = false) :
    ∀ t ∈ (s.setCauses c).transfers.head?, t.isMessage = false := by
  unfold State.setCauses State.messageOnRise
  split
  · exact State.sendDue_head _
  · exact h

/-- The end of a transfer takes nothing else from the list but messages. -/
theorem State.ended_countP (s : State) (ts : List Transfer) {p : Transfer → Bool}
    (hp : p .message = false) : (s.ended ts).transfers.countP p = ts.countP p :=
  State.sendDue_countP { s with transfers := ts } hp

/-! ### Finishing (R146, R148) -/

@[simp] theorem State.finishAll_nil (s : State) : s.finishAll [] = s := rfl

@[simp] theorem State.finishAll_cons (s : State) (c : Completion) (cs : List Completion) :
    s.finishAll (c :: cs) = (s.finish c).finishAll cs := rfl

theorem State.finishAll_append (s : State) (cs ds : List Completion) :
    s.finishAll (cs ++ ds) = (s.finishAll cs).finishAll ds := List.foldl_append

/-- A command that is in the table and not FINISHED becomes FINISHED and joins the finish list; any other
changes nothing. -/
theorem State.finish_cases (s : State) (c : Completion) :
    ((∃ e ∈ s.table, e.id = c.id ∧ e.finished = false) ∧
      s.finish c = { s with table := s.table.map (OctEntry.finish c),
                            finishList := s.finishList ++ [.entry c.id] }) ∨
    ((∀ e ∈ s.table, e.id = c.id → e.finished = true) ∧ s.finish c = s) := by
  unfold State.finish
  split
  · rename_i h
    refine .inl ⟨?_, rfl⟩
    simpa using h
  · rename_i h
    refine .inr ⟨?_, rfl⟩
    intro e he hid
    by_contra hf
    exact h (by simpa using ⟨e, he, hid, by simpa using hf⟩)

@[simp] theorem OctEntry.finish_id (c : Completion) (e : OctEntry) : (e.finish c).id = e.id := by
  unfold OctEntry.finish; split <;> rfl

/-- Finishing keeps the commands of the table in their places. -/
@[simp] theorem State.finish_ids (s : State) (c : Completion) :
    (s.finish c).table.map (·.id) = s.table.map (·.id) := by
  rcases s.finish_cases c with ⟨-, h⟩ | ⟨-, h⟩ <;> rw [h]
  simp [Function.comp_def]

@[simp] theorem State.finishAll_ids (s : State) (cs : List Completion) :
    (s.finishAll cs).table.map (·.id) = s.table.map (·.id) := by
  induction cs generalizing s with
  | nil => rfl
  | cons c cs ih => rw [finishAll_cons, ih, finish_ids]

/-- Finishing does not read the lanes. -/
theorem State.finish_setLane (s : State) (l : Fin 16) (L : Lane) (c : Completion) :
    (s.setLane l L).finish c = (s.finish c).setLane l L := by
  by_cases h : (s.table.any fun e => decide (e.id = c.id) && !e.finished) = true
  · simp only [State.finish, setLane_table, h, if_true]; rfl
  · simp only [State.finish, setLane_table, h]; rfl

theorem State.finishAll_setLane (s : State) (l : Fin 16) (L : Lane) (cs : List Completion) :
    (s.setLane l L).finishAll cs = (s.finishAll cs).setLane l L := by
  induction cs generalizing s with
  | nil => rfl
  | cons c cs ih => rw [finishAll_cons, finishAll_cons, finish_setLane, ih]

@[simp] theorem completionOrder_nil_left (t : List OctEntry) (ws : List Completion) :
    completionOrder t [] ws = ws := rfl

@[simp] theorem completionOrder_single (t : List OctEntry) (c : Completion) :
    completionOrder t [c] [] = [c] := rfl

/-- One lane set twice. -/
@[simp] theorem State.setLane_setLane (s : State) (l : Fin 16) (L M : Lane) :
    (s.setLane l L).setLane l M = s.setLane l M := by
  simp [State.setLane]

/-- One lane set to what it is. -/
@[simp] theorem State.setLane_self (s : State) (l : Fin 16) : s.setLane l s.lanes[l] = s := by
  simp [State.setLane]

/-! ### A happening at a lane -/

/-- A happening that leaves the lane out of sync is taken as it is. -/
theorem State.applySync_of_not (s : State) (l : Fin 16) (o : LaneOut) (h : o.lane.inSync = false) :
    s.applySync l o = s.applyOut l o := by
  simp [State.applySync, LaneOut.settleSync, h]

/-- A lane in a state other than ACTIVE is not in sync (R46). -/
theorem Lane.inSync_of_state {L : Lane} (h : L.state ≠ .active) : L.inSync = false := by
  simp [Lane.inSync, h]

/-! ### Ordering some elements of a list in place -/

theorem insertOn_perm {α : Type} (key : α → Nat) (x : α) (xs : List α) :
    (insertOn key x xs).Perm (x :: xs) := by
  induction xs with
  | nil => exact .refl _
  | cons y ys ih =>
    unfold insertOn
    split
    · exact .refl _
    · exact (ih.cons y).trans (.swap x y ys)

/-- Sorting by a key permutes the list. -/
theorem sortOn_perm {α : Type} (key : α → Nat) (xs : List α) : (sortOn key xs).Perm xs := by
  induction xs with
  | nil => exact .refl _
  | cons x xs ih => exact (insertOn_perm key x _).trans (ih.cons x)

theorem insertOn_sorted {α : Type} {key : α → Nat} (x : α) {xs : List α}
    (h : xs.Pairwise fun a b => key a ≤ key b) :
    (insertOn key x xs).Pairwise fun a b => key a ≤ key b := by
  induction xs with
  | nil => simp [insertOn]
  | cons y ys ih =>
    obtain ⟨hy, hs⟩ := List.pairwise_cons.mp h
    unfold insertOn
    split
    · rename_i hxy
      exact List.pairwise_cons.mpr ⟨by simpa using ⟨hxy, fun a ha => hxy.trans (hy a ha)⟩, h⟩
    · refine List.pairwise_cons.mpr ⟨fun a ha => ?_, ih hs⟩
      rcases List.mem_cons.mp ((insertOn_perm key x ys).mem_iff.mp ha) with rfl | ha
      · omega
      · exact hy a ha

/-- Sorting by a key gives ascending keys. -/
theorem sortOn_sorted {α : Type} (key : α → Nat) (xs : List α) :
    (sortOn key xs).Pairwise fun a b => key a ≤ key b := by
  induction xs with
  | nil => simp [sortOn]
  | cons x xs ih => exact insertOn_sorted x ih

theorem fillWith_spec {α : Type} (p : α → Bool) (xs ys : List α) (hy : ∀ y ∈ ys, p y = true)
    (hl : ys.length = xs.countP p) :
    (fillWith p xs ys).filter p = ys ∧
      (fillWith p xs ys).filter (fun x => !p x) = xs.filter (fun x => !p x) ∧
      List.Forall₂ (fun x z => p z = p x ∧ (p x = false → z = x)) xs (fillWith p xs ys) := by
  induction xs generalizing ys with
  | nil => cases ys <;> simp_all [fillWith]
  | cons x xs ih =>
    cases ys with
    | nil =>
      have h0 : ∀ z ∈ x :: xs, p z = false := by
        simpa [List.countP_eq_zero] using hl.symm
      refine ⟨by simpa [fillWith, List.filter_eq_nil_iff] using h0, rfl, ?_⟩
      exact List.forall₂_same.mpr fun z hz => ⟨rfl, fun _ => rfl⟩
    | cons y ys =>
      by_cases hx : p x = true
      · obtain ⟨h1, h2, h3⟩ := ih ys (fun z hz => hy z (by simp [hz])) (by simpa [hx] using hl)
        have hpy := hy y (by simp)
        simp [fillWith, hx, hpy, h1, h2, h3]
      · obtain ⟨h1, h2, h3⟩ := ih (y :: ys) hy (by simpa [hx] using hl)
        simp [fillWith, hx, h1, h2, h3]

/-- Ordering within a list: those that satisfy `p` stand in ascending order of the key, each place keeps
whether it satisfies `p`, and the others stay. -/
theorem sortWithin_spec {α : Type} (p : α → Bool) (key : α → Nat) (xs : List α) :
    (sortWithin p key xs).Perm xs ∧
      (sortWithin p key xs).filter p = sortOn key (xs.filter p) ∧
      List.Forall₂ (fun x z => p z = p x ∧ (p x = false → z = x)) xs (sortWithin p key xs) := by
  have hp := sortOn_perm key (xs.filter p)
  obtain ⟨h1, h2, h3⟩ := fillWith_spec p xs (sortOn key (xs.filter p))
    (fun y hy => (List.mem_filter.mp (hp.mem_iff.mp hy)).2)
    (by rw [hp.length_eq, List.countP_eq_length_filter])
  refine ⟨?_, h1, h3⟩
  have a := List.filter_append_perm p (sortWithin p key xs)
  have b := List.filter_append_perm p xs
  have h2' : (sortWithin p key xs).filter (fun x => !p x) = xs.filter (fun x => !p x) := h2
  rw [show (sortWithin p key xs).filter p = _ from h1, h2'] at a
  exact a.symm.trans ((hp.append_right _).trans b)
end Sys2Proof.Machine
end

