-- ==== Sys2Proof/Laws/Commands.lean ====
section
/-! SUPPORT. How a record becomes a command (R142 to R146): each row given at an open intake is its acceptance,
a command that nothing holds back runs its effect on the table with its entry, and one that finishes at its
activation stands completed. -/

namespace Sys2Proof.Machine

/-- The row of a record is its taking. -/
theorem exec_row (r : Request) (s : State) (h : r.cmd ≠ .nop) : exec r.row s = .next (s.takeRecord r) := by
  obtain ⟨⟨ring, tag⟩, lane, cmd⟩ := r
  cases cmd <;> first | rfl | exact absurd rfl h

theorem laneOfByte_of {b : Byte} {l : Fin 16} (h : b.toNat = l.val) : laneOfByte b = some l := by
  unfold laneOfByte
  rw [dif_pos (by omega)]
  exact congrArg some (Fin.ext h)

/-- A command that activates runs its effect. -/
theorem takeRecord_activates {s : State} {r : Request} {l : Fin 16} (h : Activates s r l) :
    s.takeRecord r =
      if r.cmd = .laneDetach then ((s.opened r).runCmd r.id r.lane r.cmd).release
      else (s.opened r).runCmd r.id r.lane r.cmd := by
  obtain ⟨h1, h2, h3, h4, h5⟩ := h
  have hd : (s.table.any fun e => decide (e.id = r.id)) = false := by simpa using h3
  have he : s.enter r = (s.opened r).runCmd r.id r.lane r.cmd := by
    unfold State.enter
    rw [if_neg (by omega), if_neg (by simp [h5])]
    rfl
  unfold State.takeRecord State.accept
  rw [if_pos h1, if_neg (by rw [h2]; decide), if_neg (by simp [hd]), he]

/-- No other entry bears the name of a command that activates. -/
theorem Activates.fresh {s : State} {r : Request} {l : Fin 16} (h : Activates s r l) :
    ∀ e ∈ s.table, e.id ≠ r.id := h.2.2.1

theorem OctEntry.finish_of_ne {c : Completion} {e : OctEntry} (h : e.id ≠ c.id) : e.finish c = e := by
  simp [OctEntry.finish, h]

/-- A command that finishes at its activation stands completed. -/
theorem finish_opened (s : State) (r : Request) (st : Status) (res : Option Word)
    (h : ∀ e ∈ s.table, e.id ≠ r.id) :
    (s.opened r).finish { id := r.id, status := st, detail := none, result := res } =
      s.completed r st res := by
  have hm : s.table.map (OctEntry.finish { id := r.id, status := st, detail := none, result := res }) =
      s.table := by
    conv_rhs => rw [← List.map_id s.table]
    exact List.map_congr_left fun e he => OctEntry.finish_of_ne (h e he)
  simp [State.finish, State.opened, State.completed, Request.entry, OctEntry.finished, hm,
    OctEntry.finish]

@[simp] theorem opened_lanes (s : State) (r : Request) : (s.opened r).lanes = s.lanes := rfl
@[simp] theorem opened_ports (s : State) (r : Request) : (s.opened r).ports = s.ports := rfl
@[simp] theorem opened_loader (s : State) (r : Request) : (s.opened r).loader = s.loader := rfl
@[simp] theorem opened_transfers (s : State) (r : Request) : (s.opened r).transfers = s.transfers := rfl
@[simp] theorem opened_device (s : State) (r : Request) : (s.opened r).device = s.device := rfl
@[simp] theorem opened_eq (s : State) (r : Request) : (s.opened r).eq = s.eq := rfl
@[simp] theorem opened_finishList (s : State) (r : Request) : (s.opened r).finishList = s.finishList := rfl
@[simp] theorem opened_inFlight (s : State) (r : Request) (l : Fin 16) :
    (s.opened r).inFlight l = s.inFlight l := rfl
@[simp] theorem opened_table (s : State) (r : Request) :
    (s.opened r).table = s.table ++ [r.entry .active] := rfl

theorem setLane_opened (s : State) (r : Request) (l : Fin 16) (L : Lane) :
    (s.opened r).setLane l L = (s.setLane l L).opened r := rfl

/-- A refusal at check 5 or 6 stands completed. -/
theorem refuse_opened (s : State) (r : Request) (st : Status) (h : ∀ e ∈ s.table, e.id ≠ r.id) :
    (s.opened r).refuse r.id st = s.completed r st none := finish_opened s r st none h

/-- An event reads no table. -/
theorem raise_opened (s : State) (r : Request) (e : Event) : (s.opened r).raise e = (s.raise e).opened r := by
  by_cases h1 : s.eq.mask.getLsbD e.code = true
  · simp [State.raise, h1]
  · by_cases h2 : s.device = .running ∧ s.eq.room = true <;>
      simp [State.raise, h1, h2, State.opened, State.addLost]

theorem raiseAll_opened (s : State) (r : Request) (es : List Event) :
    (s.opened r).raiseAll es = (s.raiseAll es).opened r := by
  induction es generalizing s with
  | nil => rfl
  | cons e es ih => rw [State.raiseAll_cons, State.raiseAll_cons, raise_opened, ih]

/-- A command that leaves the lane `L` out of the in-sync condition and completes OK. -/
theorem applyOut_opened (s : State) (r : Request) (l : Fin 16) (L : Lane) (evs : List Event) (w : Word)
    (h : ∀ e ∈ s.table, e.id ≠ r.id) :
    (s.opened r).applyOut l { lane := L, events := evs, done := [okDone r.id (some w)], waiters := [] } =
      ((s.raiseAll evs).setLane l L).completed r .ok (some w) := by
  unfold State.applyOut
  simp only [completionOrder_single, State.finishAll_cons, State.finishAll_nil]
  rw [setLane_opened, raiseAll_opened, State.raiseAll_setLane]
  exact finish_opened _ r .ok (some w) (by simpa using h)

/-- A command whose effect leaves the lane `L` and completes OK, with the in-sync condition judged (R46). -/
theorem applySync_opened (s : State) (r : Request) (l : Fin 16) (L : Lane) (evs : List Event) (w : Word)
    (h : ∀ e ∈ s.table, e.id ≠ r.id) :
    (s.opened r).applySync l { lane := L, events := evs, done := [okDone r.id (some w)], waiters := [] } =
      (s.raiseAll evs).completedSync l L r w := by
  by_cases hs : L.inSync = true
  · unfold State.applySync LaneOut.settleSync State.completedSync State.applyOut
    simp only [hs, if_true, List.nil_append]
    rw [setLane_opened, raiseAll_opened, State.raiseAll_setLane, setLane_opened]
    simp [okDone]
  · have hs' : L.inSync = false := by simpa using hs
    rw [State.applySync_of_not _ _ _ hs', applyOut_opened _ _ _ _ _ _ h]
    simp [State.completedSync, hs']

end Sys2Proof.Machine
end

