-- ==== Sys2Proof/Laws/Image.lean ====
section
/-! SUPPORT. The lane image: reading an entry after a happening, when two happenings are one, and when a
happening changes nothing. -/

namespace Sys2Proof.Machine

theorem mem_addresses {a : Nat} : a ∈ addresses ↔ 1 ≤ a ∧ a ≤ 63 := by
  simp only [addresses, List.mem_range', Nat.one_mul]
  constructor
  · rintro ⟨i, hi, rfl⟩; omega
  · intro h; exact ⟨a - 1, by omega, by omega⟩

theorem entryAt_of {es : Vector Entry 63} {a : Nat} (h : 1 ≤ a ∧ a ≤ 63) :
    entryAt es a = es[a - 1]'(by omega) := by simp [entryAt, h]

theorem entryAt_out {es : Vector Entry 63} {a : Nat} (h : ¬ (1 ≤ a ∧ a ≤ 63)) :
    entryAt es a = Entry.reset := by simp only [entryAt, dif_neg h]

@[simp] theorem Image.place_entries (im : Image) (es : Vector Entry 63) : (im.place es).entries = es := rfl

/-- An entry after a happening that acts on every entry. -/
theorem Image.get_mapEntries (im : Image) (f : Nat → Entry → Entry) {a : Nat} (h : a ∈ addresses) :
    (im.mapEntries f).get a = f a (im.get a) := by
  have h' := mem_addresses.1 h
  simp only [Image.mapEntries, Image.get, Image.place_entries, entryAt_of h', Vector.getElem_ofFn,
    Fin.getElem_fin]
  congr 1
  omega

/-- An address without an entry reads as an unmanaged one, whatever the image. -/
theorem Image.get_out (im : Image) {a : Nat} (h : a ∉ addresses) : im.get a = Entry.reset :=
  entryAt_out fun h' => h (mem_addresses.2 h')

theorem Image.get_modify_self (im : Image) (f : Entry → Entry) {a : Nat} (h : a ∈ addresses) :
    (im.modify a f).get a = f (im.get a) := by simp [Image.modify, Image.get_mapEntries im _ h]

theorem Image.get_modify_ne (im : Image) (f : Entry → Entry) {a b : Nat} (h : b ≠ a) :
    (im.modify a f).get b = im.get b := by
  by_cases hb : b ∈ addresses
  · simp [Image.modify, Image.get_mapEntries im _ hb, h]
  · rw [Image.get_out _ hb, Image.get_out _ hb]

/-- Happenings that do the same to every entry are one happening. -/
theorem Image.mapEntries_congr (im : Image) {f g : Nat → Entry → Entry}
    (h : ∀ a ∈ addresses, f a (im.get a) = g a (im.get a)) : im.mapEntries f = im.mapEntries g := by
  have he : (Vector.ofFn fun i : Fin 63 => f (i.val + 1) im.entries[i]) =
      Vector.ofFn fun i : Fin 63 => g (i.val + 1) im.entries[i] := by
    ext i hi
    have := h (i + 1) (mem_addresses.2 (by omega))
    rw [Image.get, entryAt_of (by omega)] at this
    simpa using this
  simp only [Image.mapEntries, he]

theorem Image.modify_congr (im : Image) {a : Nat} {f g : Entry → Entry} (h : f (im.get a) = g (im.get a)) :
    im.modify a f = im.modify a g := by
  apply Image.mapEntries_congr
  intro b _
  by_cases hb : b = a
  · subst hb; simpa using h
  · simp [hb]

theorem dirtyAt_get (im : Image) (a : Nat) : dirtyAt im.entries a = decide ((im.get a).state = .dirty) := rfl

theorem Image.QueueExact.dirty {im : Image} (h : im.QueueExact) {a : Nat} (ha : a ∈ im.queue) :
    (im.get a).state = .dirty := (h.2.2 a (h.2.1 a ha)).1 ha

/-- A happening that changes no entry changes nothing. -/
theorem Image.mapEntries_id (im : Image) (hq : im.QueueExact) {f : Nat → Entry → Entry}
    (h : ∀ a ∈ addresses, f a (im.get a) = im.get a) : im.mapEntries f = im := by
  have he : (Vector.ofFn fun i : Fin 63 => f (i.val + 1) im.entries[i]) = im.entries := by
    ext i hi
    have := h (i + 1) (mem_addresses.2 (by omega))
    rw [Image.get, entryAt_of (by omega)] at this
    simpa using this
  obtain ⟨es, q⟩ := im
  simp only [Image.mapEntries, Image.place, he]
  congr 1
  rw [List.filter_eq_self.2, List.filter_eq_nil_iff.2]
  · simp
  · intro a _; cases dirtyAt es a <;> decide
  · intro a ha
    exact decide_eq_true (hq.dirty ha)

theorem addresses_nodup : addresses.Nodup := by decide

/-- Placing entries keeps the queue exactly the DIRTY addresses, whatever the entries (R17, R18). -/
theorem Image.QueueExact.place {im : Image} (h : im.QueueExact) (es : Vector Entry 63) :
    (im.place es).QueueExact := by
  refine ⟨List.Nodup.append (h.1.filter _) (addresses_nodup.filter _) ?_, ?_, ?_⟩
  · intro a ha hb
    have h1 := h.dirty (List.mem_filter.1 ha).1
    have h2 := (List.mem_filter.1 hb).2
    rw [dirtyAt_get, h1] at h2
    simp at h2
  · intro a ha
    rcases List.mem_append.1 ha with h1 | h1
    · exact h.2.1 a (List.mem_filter.1 h1).1
    · exact (List.mem_filter.1 h1).1
  · intro a ha
    have hg : ((im.place es).get a).state = .dirty ↔ dirtyAt es a = true := by
      simp [Image.get, dirtyAt]
    rw [hg]
    simp only [Image.place, List.mem_append, List.mem_filter, h.2.2 a ha, dirtyAt_get]
    by_cases hd : (im.get a).state = .dirty <;> simp [hd, ha]

theorem Image.QueueExact.mapEntries {im : Image} (h : im.QueueExact) (f : Nat → Entry → Entry) :
    (im.mapEntries f).QueueExact := h.place _

/-- Two happenings of which the first leaves every entry's DIRTY state as it is are one happening. -/
theorem Image.mapEntries_mapEntries (im : Image) (hq : im.QueueExact) (f g : Nat → Entry → Entry)
    (h : ∀ a ∈ addresses, ((f a (im.get a)).state = .dirty ↔ (im.get a).state = .dirty)) :
    (im.mapEntries f).mapEntries g = im.mapEntries fun a e => g a (f a e) := by
  have hd : ∀ a, dirtyAt (im.mapEntries f).entries a = dirtyAt im.entries a := by
    intro a
    rw [dirtyAt_get, dirtyAt_get, decide_eq_decide]
    by_cases ha : a ∈ addresses
    · rw [Image.get_mapEntries im f ha]; exact h a ha
    · rw [Image.get_out _ ha, Image.get_out _ ha]
  have hqf : (im.mapEntries f).queue = im.queue := by
    show im.queue.filter _ ++ addresses.filter _ = im.queue
    rw [List.filter_eq_self.2, List.filter_eq_nil_iff.2]
    · simp
    · intro a _
      have h1 := hd a
      simp only [Image.mapEntries, Image.place] at h1
      rw [h1]
      cases dirtyAt im.entries a <;> decide
    · intro a ha
      have h1 := hd a
      simp only [Image.mapEntries, Image.place] at h1
      rw [h1]
      exact decide_eq_true (hq.dirty ha)
  have he : (Vector.ofFn fun i : Fin 63 => g (i.val + 1) (im.mapEntries f).entries[i]) =
      Vector.ofFn fun i : Fin 63 => g (i.val + 1) (f (i.val + 1) im.entries[i]) := by
    ext i hi
    simp [Image.mapEntries]
  have hp : ∀ (im' : Image) (k : Nat → Entry → Entry),
      im'.mapEntries k = im'.place (Vector.ofFn fun i : Fin 63 => k (i.val + 1) im'.entries[i]) :=
    fun _ _ => rfl
  rw [hp (im.mapEntries f) g, he, hp im fun a e => g a (f a e)]
  simp only [Image.place, hqf, hd]

end Sys2Proof.Machine
end

