-- ==== Sys2Proof/Laws/Lane.lean ====
section
/-! SUPPORT. What the lane's poll round and its ticks can do, said once. -/

namespace Sys2Proof.Machine

/-- The watch of the POLL outstanding, in the words of R104. -/
theorem Lane.pollOutstanding_spec (L : Lane) (o : Option Tx) (i : Fin 8) :
    L.pollOutstanding o = some i ↔ L.PollOf o i := by
  unfold Lane.pollOutstanding Lane.PollOf
  rcases o with _ | o
  · rcases h : L.retryDue with _ | r
    · simp
    · cases r <;> simp
  · cases o <;> (rcases h : L.retryDue with _ | r <;> [skip; cases r]) <;> simp

/-- A round whose CHECK has been taken goes on while a POLL is to come or outstanding (R94). -/
theorem Lane.roundGoesOn_polling {L : Lane} {q : Option (Fin 8)} (h : L.round = some (.polling q))
    (o : Option Tx) :
    L.RoundGoesOn o ↔ ¬ (L.nextPoll = none ∧ L.pollOutstanding o = none) := by
  have e : (∃ i, L.PollOf o i) ↔ L.pollOutstanding o ≠ none := by
    simp only [← Lane.pollOutstanding_spec, ne_eq, Option.eq_none_iff_forall_ne_some, not_forall, not_not]
  have f : (∃ i : Fin 8, (∀ j ∈ q, j < i) ∧ L.watches[i].state = .active) ↔ L.nextPoll ≠ none := by
    unfold Lane.nextPoll
    rw [h]
    simp only [ne_eq, List.find?_eq_none, Bool.and_eq_true, decide_eq_true_eq, not_forall, not_not]
    constructor
    · rintro ⟨i, h1, h2⟩
      refine ⟨i, by unfold watchIndices; clear h1 h2; revert i; decide, ?_, h2⟩
      cases q <;> simp_all [abovePosition]
    · rintro ⟨i, _, h1, h2⟩
      refine ⟨i, ?_, h2⟩
      cases q <;> simp_all [abovePosition]
  unfold Lane.RoundGoesOn
  simp only [h, Option.some.injEq, Round.polling.injEq, reduceCtorEq, false_or, exists_eq_left', e, f]
  tauto

/-- A round that goes on stays, and any other is over. -/
theorem Lane.settleRound_spec (L : Lane) (o : Option Tx) :
    (L.RoundGoesOn o → L.settleRound o = L) ∧
      (¬ L.RoundGoesOn o → L.settleRound o = { L with round := none }) := by
  obtain h | h | ⟨q, h⟩ : L.round = none ∨ L.round = some .atCheck ∨ ∃ q, L.round = some (.polling q) := by
    rcases h : L.round with _ | _ | q <;> simp
  · exact ⟨fun g => by simp [Lane.RoundGoesOn, h] at g, fun _ => by
      simp only [Lane.settleRound, h]
      cases L; simp_all⟩
  · exact ⟨fun _ => by simp [Lane.settleRound, h], fun g => absurd (Or.inl h) g⟩
  · rw [Lane.roundGoesOn_polling h]
    unfold Lane.settleRound
    simp only [h]
    exact ⟨fun g => if_neg g, fun g => if_pos (not_not.mp g)⟩

/-- A tick at the poll period (R93). -/
theorem Lane.pollTick_spec (L : Lane) (o : Option Tx) : L.Ticked (Lane.pollTick { L with pollTimer := 0 } o) o := by
  have hr : Lane.RoundGoesOn { L with pollTimer := 0 } o ↔ L.RoundGoesOn o := Iff.rfl
  have hs := Lane.settleRound_spec { L with pollTimer := 0 } o
  rw [hr] at hs
  have hp (h : L.state = .active) : Lane.pollTick { L with pollTimer := 0 } o =
      (match (Lane.settleRound { L with pollTimer := 0 } o).round with
       | none => { Lane.settleRound { L with pollTimer := 0 } o with round := some .atCheck, checkDue := true }
       | some _ => { Lane.settleRound { L with pollTimer := 0 } o with
           overrunCount := min ((Lane.settleRound { L with pollTimer := 0 } o).overrunCount + 1) Config.countMax }) :=
    if_pos h
  refine ⟨fun h => if_neg h, fun h hg => ?_, fun h hg => ?_⟩
  · rw [hp h, hs.2 hg]
  · rw [hp h, hs.1 hg]
    cases h' : L.round with
    | none => simp [Lane.RoundGoesOn, h'] at hg
    | some r => simp [Config.countMax]

end Sys2Proof.Machine
end

