-- ==== Sys2Proof/Tests/Slice0.lean ====
section
/-! SUPPORT. The model's own tests: well-formedness, one step of the spec's worked examples, and for every
statement with hypotheses a concrete state and operands that meet them. Expected values are the spec's. -/

namespace Sys2Proof.Tests

open Sys2Proof Sys2Proof.Machine

-- One theorem at a time: each kernel evaluation would otherwise hold a thread of its own.
set_option Elab.async false

/-! ### Helpers -/

/-- The state a command answers. -/
def after (c : Instr) (s : State) : State :=
  match exec c s with
  | .next t => t
  | .fault _ => s
  | .refused _ => s

/-- The part RUNNING with four ACTIVE rings and enabled ports, and lane `l` as given. -/
def up (l : Fin 16) (L : Lane) : State :=
  { State.reset with
    device := .running,
    rings := Vector.replicate 4 { SubRing.reset with state := .active },
    ports := Vector.replicate 4 { Port.reset with enabled := true },
    lanes := State.reset.lanes.set l L }

/-- An ACTIVE lane at port 0, select 0. -/
def active : Lane := { Lane.reset with state := .active, binding := some { port := 0, select := 0 } }

/-- The lane of another state. -/
def inState (st : LaneState) : Lane := { active with state := st }

/-- A PROBING lane. -/
def probing (why : ProbePurpose) : Lane := { active with state := .probing, purpose := some why }

/-- An entry that is not PENDING or REFUSED. -/
def ent (base hold cal intended applied : Option Byte) (st : EntryState) : Entry :=
  { base := base, hold := hold, cal := cal, intended := intended, applied := applied, state := st,
    inFlight := none, attempts := 0, refusal := none }

/-- An entry PENDING with base and intended value 0x3C, as in Section 2.9. -/
def pend (attempts : Nat) : Entry :=
  { ent (some 0x3C) none none (some 0x3C) (some 0x30) .pending with
    inFlight := some 0x3C, attempts := attempts }

/-- An image with the entries listed and the queue given. -/
def img (es : List (Nat × Entry)) (queue : List Nat) : Image :=
  { entries := Vector.ofFn fun i =>
      ((es.find? fun p => decide (p.1 = i.val + 1)).map (·.2)).getD Entry.reset,
    queue := queue }

/-- An ACK that delivers `d`. -/
def ack (d : Byte) : FrameAnswer :=
  { startBit := some 2, code1 := true, code2 := false, data := d, parity := oddOnes (msbFirst 8 d.toNat) }

/-- A NAK. -/
def nak : FrameAnswer := { startBit := some 2, code1 := false, code2 := true, data := 0, parity := false }

/-- An answer whose two code bits are alike. -/
def par : FrameAnswer := { startBit := some 2, code1 := true, code2 := true, data := 0, parity := false }

/-- No answer. -/
def silent : FrameAnswer :=
  { startBit := none, code1 := false, code2 := false, data := 0, parity := false }

/-- Command 7 of ring 0. -/
def id7 : CmdId := { ring := 0, tag := 7 }

/-- Command 7 of ring 0 for a lane. -/
def rq (lane : Byte) (c : Cmd) : Request := { id := id7, lane := lane, cmd := c }

/-- An ACTIVE table entry. -/
def oct (id : CmdId) (lane : Byte) (c : Cmd) (stage : Stage) : OctEntry :=
  { id := id, lane := lane, cmd := c, stage := stage, stopped := false }

/-- The option block that keeps every option. -/
def keepAll : OptionBlock :=
  { pollPeriod := 0xFFFF, retryLimit := 0xFF, verify := 0xFF, layerOrder := 0xFF, hysteresis := 0xFF,
    indexMode := 0xFF, alarmLatch := 0xFF, warnLatch := 0xFF, indexEvents := 0xFF }

/-- A 32-byte record with the bytes given first. -/
def recordOf (bytes : List Byte) : List Byte := bytes ++ List.replicate (32 - bytes.length) 0

/-- A 256-byte block of a kind and count, with its next block address, body and right checksum. -/
def block (kind count : Byte) (next : Nat) (body : List Byte) : List Byte :=
  let open_ := [kind, count, 0, 0, 0, 0, 0, 0] ++ leBytes 8 next ++ body ++ List.replicate (240 - body.length) 0
  let sum := (65536 - blockSum open_) % 65536
  (open_.set 2 (BitVec.ofNat 8 sum)).set 3 (BitVec.ofNat 8 (sum / 256))

/-- Port `p` of a state sends a frame. -/
def sending (p : Fin 4) (l : Fin 16) (tx : Tx) (s : State) : State :=
  s.setPort p { s.ports[p] with frame := some { lane := l, tx := tx } }

/-- Whether an answer is a next state. -/
def isNext (o : Answer) : Bool :=
  match o with
  | .next _ => true
  | .fault _ => false
  | .refused _ => false

theorem exists_next {o : Answer} (h : isNext o = true) : ∃ t, o = .next t := by
  cases o with
  | next t => exact ⟨t, rfl⟩
  | fault _ => cases h
  | refused _ => cases h

/-! ### Well-formedness -/

theorem test_wf_setup_read : (Instr.setupReadEnd (.data (List.replicate 127 0))).wellFormed = false ∧
    (Instr.setupReadEnd (.data (List.replicate 128 0))).wellFormed = true := by decide +kernel

theorem test_wf_fetch : (Instr.fetchEnd (.data (List.replicate 33 0))).wellFormed = false ∧
    (Instr.fetchEnd (.data (List.replicate 32 0))).wellFormed = true := by decide +kernel

theorem test_wf_block_read : (Instr.blockReadEnd (.data [])).wellFormed = false ∧
    (Instr.blockReadEnd .error).wellFormed = true := by decide +kernel

theorem test_wf_frame_answer : (Instr.frameEnd 0 { silent with startBit := some 0 }).wellFormed = false ∧
    (Instr.frameEnd 0 { silent with startBit := some 1 }).wellFormed = true := by decide +kernel

/-- The table gives no row bits. -/
theorem test_no_word_is_a_command : decodeTableWord 8 0x42 = none := rfl

/-! ### The worked examples, one step each -/

/-- Lane 2 of Section 1.9 after step 3. -/
def lane19 : Lane :=
  { active with
    image := img
      [(7, ent (some 0x44) none none (some 0x44) (some 0x40) .dirty),
       (12, ent (some 0x10) none (some 0x24) (some 0x24) (some 0x22) .dirty),
       (20, ent (some 0x05) none (some 0x33) (some 0x33) (some 0x00) .dirty)] [20, 7, 12] }

/-- Section 1.9, step 4: HOLD 0x22 at address 12 makes it CLEAN and takes it from the queue. -/
theorem test_reg_set_19_4 :
    let t := after (.regSet 0 7 2 12 1 0x22 true) (up 2 lane19)
    t.lanes[(2 : Fin 16)].image.queue = [20, 7] ∧
      (t.lanes[(2 : Fin 16)].image.get 12).state = .clean ∧
      (t.lanes[(2 : Fin 16)].image.get 12).intended = some 0x22 := by decide +kernel

/-- Section 1.9, step 6: CAL_FIRST makes address 12 DIRTY at the tail. -/
theorem test_lane_set_19_6 :
    let s := up 2 { active with
      image := img [(7, ent (some 0x40) none none (some 0x40) (some 0x40) .clean),
        (12, ent (some 0x10) (some 0x22) (some 0x24) (some 0x22) (some 0x22) .clean),
        (20, ent (some 0x05) none (some 0x33) (some 0x33) (some 0x00) .dirty)] [20] }
    let t := after (.laneSet 0 7 2 { keepAll with layerOrder := 1 }) s
    t.lanes[(2 : Fin 16)].image.queue = [20, 12] ∧
      (t.lanes[(2 : Fin 16)].image.get 12).intended = some 0x24 ∧
      (t.lanes[(2 : Fin 16)].image.get 7).state = .clean := by decide +kernel

/-- Lane 5 of Section 2.9 with its VERIFY in flight after `n` attempts. -/
def s29 (n : Nat) : State :=
  sending 0 5 (.verify 9) (up 5 { active with
    options := { Options.default with verify := true },
    image := img [(9, pend n), (14, ent (some 1) none none (some 1) none .dirty)] [14] })

/-- Section 2.9, step 4: a mismatch with an attempt left makes a write repeat due. -/
theorem test_frame_end_29_4 :
    let L := (after (.frameEnd 0 (ack 0x38)) (s29 1)).lanes[(5 : Fin 16)]
    L.retryDue = some (.wb 9 0x3C) ∧ (L.image.get 9).attempts = 2 ∧ (L.image.get 9).state = .pending := by
  decide +kernel

/-- Section 2.9, step 6: the last mismatch refuses the value, with its event. -/
theorem test_frame_end_29_6 :
    let t := after (.frameEnd 0 (ack 0x38)) (s29 2)
    (t.lanes[(5 : Fin 16)].image.get 9).state = .refused ∧
      (t.lanes[(5 : Fin 16)].image.get 9).applied = some 0x38 ∧
      t.lanes[(5 : Fin 16)].image.queue = [14] ∧
      t.eq.pending = [.writeRefused 5 9 0x3C .mismatch (some 0x38)] := by decide +kernel

/-- Section 3.14, step 4: LANE_RESUME of the FAULTED lane makes a CHECK due. -/
theorem test_lane_resume_314_4 :
    let L := (after (.laneResume 0 7 4) (up 4 (inState .faulted))).lanes[(4 : Fin 16)]
    L.state = .probing ∧ L.purpose = some .resume ∧ L.checkDue = true := by decide +kernel

/-- Section 4.9, grant 3: select 2 offers nothing, so select 3 reads address 40. -/
theorem test_port_grant_49_3 :
    let at3 (sel : Fin 4) : Lane := { active with binding := some { port := 2, select := sel } }
    let s := up 11 { at3 3 with directs := [{ id := id7, addr := 40, value := none, retries := 0 }] }
    let t := after (.portGrant 2)
      ((s.setLane 10 (at3 2)).setPort 2 { s.ports[(2 : Fin 4)] with pointer := 1 })
    t.ports[(2 : Fin 4)].pointer = 3 ∧
      t.ports[(2 : Fin 4)].frame = some { lane := 11, tx := .directRead 40 } := by decide +kernel

/-- Watch 2 of Section 5.10. -/
def watch510 (flags : Flags) (last : Option Byte) : Watch :=
  { Watch.reset with
    state := .active, address := 33, signed := true, eventEnable := true,
    alarmLow := some 0xEC, alarmHigh := some 70, warnHigh := some 60, last := last, flags := flags }

/-- Section 5.10, steps 1, 3, 4 and 7: strict limits, a LATCHED alarm and a LIVE warning. -/
theorem test_compare_510 :
    ((watch510 Flags.clear none).compare Options.default 58).flags = Flags.clear ∧
    ((watch510 { Flags.clear with wh := true } none).compare Options.default 72).flags =
      { al := false, ah := true, wl := false, wh := true } ∧
    ((watch510 { Flags.clear with ah := true, wh := true } none).compare Options.default 65).flags =
      { al := false, ah := true, wl := false, wh := true } ∧
    ((watch510 { Flags.clear with wh := true } none).compare Options.default 57).flags = Flags.clear := by
  decide +kernel

/-- Section 5.10, step 5: AH and WH of watch 2 clear with no event. -/
theorem test_flags_clear_510_5 :
    let w := watch510 { Flags.clear with ah := true, wh := true } (some 65)
    let s := up 3 { active with watches := Lane.reset.watches.set 2 w }
    let t := after (.flagsClear 0 7 3 0x04 0x0A) s
    t.lanes[(3 : Fin 16)].watches[(2 : Fin 8)].flags = Flags.clear ∧ t.eq.pending = [] := by
  decide +kernel

/-- R110 and Table 12-4: the rows of readings. -/
theorem test_rows : (rowOf (-41)).val = 0 ∧ (rowOf (-35)).val = 1 ∧ (rowOf 22).val = 12 ∧
    (rowOf 38).val = 15 ∧ (rowOf (-60)).val = 0 ∧ (rowOf 127).val = 31 := by decide +kernel

/-- Table 12-4: readings 36, 37, 33 and 32 at index 14 (up needs 37; down from 15 needs 32 or below). -/
theorem test_hysteresis_129 :
    let L (i : Fin 32) : Lane := { active with index := some i }
    ((L 14).handOff 13 36).lane.index = some 14 ∧ ((L 14).handOff 13 37).lane.index = some 15 ∧
      ((L 15).handOff 13 34).lane.index = some 15 ∧ ((L 15).handOff 13 32).lane.index = some 14 := by
  decide +kernel

/-- Section 7.10 before the commit: the blocks are staged and address 6 holds the host's 0x31. -/
def s710 : State :=
  { up 9 { active with
      index := some 13,
      table := [{ target := 12, rows := Vector.replicate 32 0x44 }],
      image := img
        [(6, ent (some 0x31) none none (some 0x31) (some 0x30) .dirty),
         (7, ent (some 0x11) none none (some 0x11) (some 0x11) .clean),
         (12, ent none none (some 0x44) (some 0x44) (some 0x44) .clean),
         (14, ent (some 0x50) none none (some 0x50) (some 0x50) .clean)] [6] } with
    table := [oct id7 9 (.chainLoad 1 0x1000) .active],
    loader := {
      queue := [], discarded := false,
      active := some { id := id7, lane := 9, mode := .merge, stage := .commitDue, position := 3,
                       blocksRead := 3 },
      staging := {
        base := ((Staging.reset.base.set 4 (some (.set 0x20))).set 5 (some (.set 0x30))).set 6
          (some .clear),
        columns := [{ column := { target := 14, rows := Vector.replicate 32 0x61 }, block := 2 }],
        watches := Staging.reset.watches.set 1
          (some { watch := { Watch.reset with
                    state := .active, address := 40, eventEnable := true, alarmHigh := some 0xC0 },
                  block := 3 }) } } }

/-- Section 7.10, step 6: the image and the queue after the commit, and the completion's result. -/
theorem test_chain_commit_710_6 :
    let t := after .chainCommit s710
    t.lanes[(9 : Fin 16)].image.queue = [5, 14] ∧
      (t.lanes[(9 : Fin 16)].image.get 6).state = .clean ∧
      (t.lanes[(9 : Fin 16)].image.get 7).state = .unmanaged ∧
      (t.lanes[(9 : Fin 16)].image.get 14).intended = some 0x61 ∧
      t.table.map (·.stage) = [.finished .ok none (some (resultWord 3 3 (2 + 16 * 1) 2))] := by
  decide +kernel

/-- Section 7.10, step 2: block 1 passes and block 2 is asked for. -/
theorem test_block_read_end_710_2 :
    let s := up 9 active
    let t := after (.blockReadEnd (.data (block 1 3 0x2000 [5, 0x20, 0, 0, 6, 0x30, 0, 0, 7, 0, 1, 0])))
      { s with
        transfers := [.blockRead 0x1000 true],
        loader := { Loader.reset with
          active := some { id := id7, lane := 9, mode := .merge, stage := .read 0x1000, position := 1,
                           blocksRead := 0 } } }
    t.transfers = [.blockRead 0x2000 false] ∧
      t.loader.staging.base.toList.take 7 =
        [none, none, none, none, some (.set 0x20), some (.set 0x30), some .clear] ∧
      t.loader.active.map (·.position) = some 2 := by decide +kernel

/-- Section 8.13 with the ATTACH of ring 0, tag 1 ACTIVE. -/
def s813 : State :=
  { up 2 { inState .probing with purpose := some .attach, transition := some { ring := 0, tag := 1 } } with
    cq := { OutRing.reset with writeSlot := 15, occupied := 15 },
    table := [oct { ring := 0, tag := 1 } 2 (.laneAttach 0 1 keepAll) .active] }

/-- Section 8.13, steps 1 and 2: after ring 0, intake looks at ring 1. -/
theorem test_fetch_start_813_2 :
    let s := { s813 with
      intakePointer := 0,
      rings := Vector.replicate 4 { SubRing.reset with state := .active, tail := 1 } }
    (after .fetchStart s).intakePointer = 1 ∧ (after .fetchStart s).transfers = [.fetch 1 0] := by
  decide +kernel

/-- Section 8.13, step 4: the REG_SET of tag 2 waits behind the ATTACH. -/
theorem test_fetch_end_813_4 :
    let t := after (.fetchEnd (.data (recordOf [0x10, 2, 2, 0, 5, 0, 0x20, 1])))
      { s813 with transfers := [.fetch 0 0] }
    t.table.map (·.stage) = [.active, .waiting] ∧ t.rings[(0 : Fin 4)].head = 1 := by decide +kernel

/-- Section 8.13, step 3: the write to slot 15 wraps the ring and flips its phase. -/
theorem test_completion_write_end_813_3 :
    let one : CmdId := { ring := 1, tag := 1 }
    let t := after (.completionWriteEnd .ok)
      { s813 with
        table := s813.table ++ [oct one 2 (.regSet 5 1 0x21 true) (.finished .ok none none)],
        finishList := [.entry one], transfers := [.completionWrite 0xF0 []] }
    t.cq = { OutRing.reset with writeSlot := 0, occupied := 16, phase := false } ∧
      t.table = s813.table ∧ t.finishList = [] ∧ t.intState.completion = true := by decide +kernel

/-- Section 8.13, step 6: RETURN CQ with new head 10 returns ten slots. -/
theorem test_return_813_6 :
    (after (.ringReturn .cq 10)
      { s813 with cq := { OutRing.reset with occupied := 16, phase := false } }).cq =
      { OutRing.reset with head := 10, occupied := 6, phase := false } := by decide +kernel

/-- Section 9.7, step 3: the write to slot 14 carried one lost event and raises the condition. -/
theorem test_event_write_end_97_3 :
    let rise (f : WatchFlag) : Event := .watchRaise 3 2 33 f 72
    let s : State := { State.reset with
      device := .running, intEnable := { Causes.clear with event := true },
      eq := { EventRing.reset with
        ring := { OutRing.reset with writeSlot := 14, occupied := 14 },
        pending := [rise .ah, rise .wh], lost := 1 },
      transfers := [.eventWrite 0xE0 [] 1] }
    let t := after (.eventWriteEnd .ok) s
    t.eq = { EventRing.reset with
      ring := { OutRing.reset with writeSlot := 15, occupied := 15 }, pending := [rise .wh] } ∧
      t.intState.event = true ∧ t.messages = 1 := by decide +kernel

/-- Section 9.7, step 6: a RETURN of a full ring to its own head returns all sixteen slots. -/
theorem test_return_97_6 :
    (after (.ringReturn .eq 0) { State.reset with
      device := .running,
      eq := { EventRing.reset with ring := { OutRing.reset with occupied := 16, phase := false } } }).eq.ring =
      { OutRing.reset with phase := false } := by decide +kernel

/-- Section 10.7, before step 1. -/
def s107 : State :=
  sending 0 5 (.directRead 8) { up 5 { active with
      directs := [{ id := { ring := 0, tag := 8 }, addr := 8, value := none, retries := 0 }] } with
    cq := { OutRing.reset with occupied := 16 },
    intEnable := { Causes.clear with state := true },
    table := [oct { ring := 2, tag := 3 } 1 (.regSet 1 1 1 true) (.finished .ok none none),
              oct { ring := 0, tag := 7 } 1 (.laneSync 0) .active,
              oct { ring := 0, tag := 8 } 5 (.readDirect 8) .active],
    finishList := [.entry { ring := 2, tag := 3 }] }

/-- Section 10.7, step 1: the LANE_SYNC ends ABORTED behind the REG_SET; the READ_DIRECT waits. -/
theorem test_stop_107_1 :
    let t := after .stop s107
    t.device = .stopping ∧
      t.finishList = [.entry { ring := 2, tag := 3 }, .entry { ring := 0, tag := 7 }] ∧
      t.table.map (·.stopped) = [false, false, true] := by decide +kernel

/-- Section 11.9: the request of a write of 0x3C to address 9. -/
theorem test_request_bits : (Tx.wb 9 0x3C).requestBits =
    [false, false, false, false, true, false, false, true, false, false, true, true, true, true, false,
     false, false] := by decide +kernel

/-- R139: a POST in HALTED sets BAD_POST and the ERROR cause. -/
theorem test_post_halted : (after (.post 0 1) State.reset).badPost = true ∧
    (after (.post 0 1) State.reset).intState.error = true := by decide +kernel

/-- R93, R97: a tick during a round is skipped and counted. -/
theorem test_poll_tick_overrun :
    (after (.pollTick 0) (up 0 { active with round := some .atCheck })).lanes[(0 : Fin 16)].overrunCount = 1 := by
  decide +kernel

/-! ### Deciding the invariants -/

/-- `Entry.Fits` is decidable. -/
def fitsDec : (e : Entry) → Decidable e.Fits
  | ⟨_, _, _, i, a, .unmanaged, _, _, _⟩ => inferInstanceAs (Decidable (i = none ∧ a = none))
  | ⟨_, _, _, i, a, .clean, _, _, _⟩ => inferInstanceAs (Decidable (i.isSome = true ∧ a = i))
  | ⟨_, _, _, i, a, .dirty, _, _, _⟩ => inferInstanceAs (Decidable (i.isSome = true ∧ a ≠ i))
  | ⟨_, _, _, _, _, .pending, f, _, _⟩ => inferInstanceAs (Decidable (f.isSome = true))
  | ⟨_, _, _, i, _, .refused, _, _, _⟩ => inferInstanceAs (Decidable (i.isSome = true))

/-- `Image.QueueExact` is decidable. -/
def queueExactDec (im : Image) : Decidable im.QueueExact :=
  inferInstanceAs (Decidable (im.queue.Nodup ∧ (∀ a ∈ im.queue, a ∈ addresses) ∧
    ∀ a ∈ addresses, (a ∈ im.queue ↔ (im.get a).state = .dirty)))

/-- `Entry.Ok` is decidable. -/
def entryOkDec (o : LayerOrder) (e : Entry) : Decidable (e.Ok o) :=
  letI := fitsDec e
  inferInstanceAs (Decidable (e.intended = layered o e.base e.hold e.cal ∧ e.Fits ∧
    (e.state ≠ .pending → e.inFlight = none ∧ e.attempts = 0) ∧ e.attempts ≤ 3 ∧
    (e.refusal.isSome ↔ e.state = .refused)))

/-- `Lane.ImageOk` is decidable. -/
def imageOkDec (L : Lane) : Decidable L.ImageOk :=
  letI := queueExactDec L.image
  letI := entryOkDec
  inferInstanceAs (Decidable (L.image.QueueExact ∧
    (∀ a ∈ addresses, (L.image.get a).Ok L.options.layerOrder) ∧
    (L.options.pollPeriod ≤ 1000 ∧ L.options.retryLimit ≤ 3 ∧ L.options.hysteresis ≤ 4) ∧
    (L.state = .detached → L = Lane.reset)))

/-- `ImageInv` is decidable. -/
def imageInvDec (s : State) : Decidable (ImageInv s) :=
  letI := imageOkDec
  inferInstanceAs (Decidable ((∀ l : Fin 16, s.lanes[l].ImageOk) ∧
    (∀ q ∈ s.loader.queue, s.lanes[q.lane].closed = false) ∧
    ∀ a ∈ s.loader.active, s.lanes[a.lane].closed = false))

/-- What R115 says of one address is decidable. -/
def calAtDec (t : List Column) (cal : Option Byte) (a : Nat) : (index : Option (Fin 32)) →
    Decidable (match index with
      | none => cal = none
      | some i => (∀ c ∈ t, c.target = a → cal = some c.rows[i]) ∧ ((∀ c ∈ t, c.target ≠ a) → cal = none))
  | none => inferInstanceAs (Decidable (cal = none))
  | some i => inferInstanceAs (Decidable
      ((∀ c ∈ t, c.target = a → cal = some c.rows[i]) ∧ ((∀ c ∈ t, c.target ≠ a) → cal = none)))

/-- `Lane.CalOk` is decidable. -/
def calOkDec (columns : (cs : List Column) → Decidable (ColumnsOk cs)) (L : Lane) : Decidable L.CalOk :=
  letI := columns
  letI (a : Nat) := calAtDec L.table (L.image.get a).cal a L.index
  inferInstanceAs (Decidable (ColumnsOk L.table ∧ ∀ a ∈ addresses, _))

/-- `CalInv` is decidable. -/
def calInvDec (s : State) : Decidable (CalInv s) :=
  letI columns (cs : List Column) : Decidable (ColumnsOk cs) :=
    inferInstanceAs (Decidable ((cs.map (·.target)).Nodup ∧ (∀ c ∈ cs, c.target ∈ addresses) ∧
      cs.length ≤ Config.tableColumns))
  letI := calOkDec columns
  inferInstanceAs (Decidable
    ((∀ l : Fin 16, s.lanes[l].CalOk) ∧ ColumnsOk (s.loader.staging.columns.map (·.column))))

/-- `WatchInv` is decidable. -/
def watchInvDec (s : State) : Decidable (WatchInv s) :=
  letI watch (w : Watch) : Decidable w.Ok :=
    inferInstanceAs (Decidable (w.address ≤ 63 ∧ pairInOrder w.signed w.alarmLow w.alarmHigh = true ∧
      pairInOrder w.signed w.warnLow w.warnHigh = true ∧ (w.tempSource = true → w.signed = true)))
  inferInstanceAs (Decidable
    ((∀ l : Fin 16, (∀ i : Fin 8, s.lanes[l].watches[i].Ok) ∧ sourceCount s.lanes[l].watches ≤ 1) ∧
      ∀ i : Fin 8, ∀ w ∈ s.loader.staging.watches[i], w.watch.Ok))

/-- `Tx.writes` is decidable. -/
def writesDec (a : Nat) : (tx : Tx) → Decidable (tx.writes a)
  | .wb b _ => inferInstanceAs (Decidable (b = a))
  | .verify b => inferInstanceAs (Decidable (b = a))
  | .check | .ack | .poll _ _ | .directRead _ | .directWrite _ _ => inferInstanceAs (Decidable False)

/-- An existential over what an option holds is decidable. -/
def someTxDec (p : Tx → Prop) (dec : (tx : Tx) → Decidable (p tx)) :
    (o : Option Tx) → Decidable (∃ tx, o = some tx ∧ p tx)
  | none => .isFalse fun ⟨_, h, _⟩ => by cases h
  | some a =>
    match dec a with
    | .isTrue h => .isTrue ⟨a, rfl, h⟩
    | .isFalse h => .isFalse fun ⟨_, e, g⟩ => by cases e; exact h g

/-- `Lane.WriteLives` is decidable. -/
def writeLivesDec (L : Lane) (o : Option Tx) : Decidable (L.WriteLives o) :=
  letI (a : Nat) := someTxDec (fun tx => tx.writes a) (writesDec a) o
  letI (a : Nat) := someTxDec (fun tx => tx.writes a) (writesDec a) L.retryDue
  inferInstanceAs (Decidable ((o.isSome → L.retryDue = none) ∧
    ∀ a ∈ addresses, (L.image.get a).state = .pending →
      (∃ tx, o = some tx ∧ tx.writes a) ∨
        (o = none ∧ L.state = .active ∧
          ((∃ tx, L.retryDue = some tx ∧ tx.writes a) ∨ (L.retryDue = none ∧ L.verifyDue = true)))))

/-- `LinkInv` is decidable. -/
def linkInvDec (s : State) : Decidable (LinkInv s) :=
  letI := writeLivesDec
  letI shaped (L : Lane) : Decidable L.Shaped :=
    inferInstanceAs (Decidable ((L.state = .detached → L = Lane.reset) ∧
      (L.state ≠ .detached → L.binding.isSome) ∧ (L.purpose.isSome ↔ L.state = .probing) ∧
      (L.round.isSome → L.state = .active)))
  letI one (L : Lane) : Decidable L.OnePending :=
    inferInstanceAs (Decidable (∀ a ∈ addresses, (L.image.get a).state = .pending →
      (L.state = .active ∨ L.state = .quiescing ∨ L.state = .detaching) ∧
        ∀ b ∈ addresses, (L.image.get b).state = .pending → b = a))
  letI : Decidable s.LoadsOpen :=
    inferInstanceAs (Decidable ((∀ q ∈ s.loader.queue, s.lanes[q.lane].closed = false) ∧
      ∀ a ∈ s.loader.active, s.lanes[a.lane].closed = false))
  letI : Decidable s.BindingsDistinct :=
    inferInstanceAs (Decidable (∀ l m : Fin 16, s.lanes[l].attached = true → s.lanes[m].attached = true →
      s.lanes[l].binding = s.lanes[m].binding → l = m))
  letI : Decidable s.PortsServe :=
    inferInstanceAs (Decidable
      ((∀ l : Fin 16, s.lanes[l].attached = true →
          ∀ b ∈ s.lanes[l].binding, s.ports[b.port].enabled = true) ∧
        ∀ p : Fin 4, ∀ f ∈ s.ports[p].frame, s.lanes[f.lane].attached = true ∧
          s.lanes[f.lane].binding.map (·.port) = some p))
  inferInstanceAs (Decidable
    ((∀ l : Fin 16, s.lanes[l].Shaped ∧ s.lanes[l].OnePending) ∧ s.LoadsOpen ∧ s.BindingsDistinct ∧
      (s.device ≠ .resetting → s.PortsServe ∧ ∀ l : Fin 16, s.lanes[l].WriteLives (s.inFlight l)) ∧
      (s.device = .resetting → ∀ p : Fin 4, s.ports[p].frame = none → s.ports[p].enabled = false)))

/-! ### Witnesses: the step and its invariants -/

/-- A part at work: lane 0 with a WB of address 9 in flight, address 14 DIRTY by its cal layer, a temperature
source and a waiter; a load with its block read in flight; a FINISHED REG_SET; an event pending. The answer
to the frame is the next command. -/
def demo : State :=
  sending 0 0 (.wb 9 0x3C) { up 0 { active with
      index := some 13,
      table := [{ target := 14, rows := Vector.ofFn fun i => if i.val = 13 then 0x50 else 0x10 }],
      image := img
        [(7, ent (some 0x11) none none (some 0x11) (some 0x11) .clean), (9, pend 1),
         (14, ent (some 1) none (some 0x50) (some 0x50) none .dirty)] [14],
      watches := Lane.reset.watches.set 0
        { watch510 Flags.clear (some 22) with tempSource := true },
      waiters := [{ id := { ring := 0, tag := 1 }, remaining := some 5 }] } with
    table := [oct { ring := 0, tag := 1 } 0 (.laneSync 5) .active,
              oct { ring := 0, tag := 2 } 0 (.chainLoad 1 0x40) .active,
              oct { ring := 1, tag := 1 } 0 (.regSet 9 0 0x3C true) (.finished .ok none none)],
    finishList := [.entry { ring := 1, tag := 1 }],
    loader := { Loader.reset with
      active := some { id := { ring := 0, tag := 2 }, lane := 0, mode := .merge, stage := .read 0x40,
                       position := 1, blocksRead := 0 } },
    transfers := [.blockRead 0x40 true],
    eq := { EventRing.reset with pending := [.chipRestart 0 1 .active 2] },
    pending := [.frameEnd 0 (ack 0), .portGrant 0] }

theorem demo_steps : ∃ t, step demo = .next t := exists_next (by decide +kernel)

theorem witness_StepKeepsImages : ∃ s t, ImageInv s ∧ step s = .next t := by
  obtain ⟨t, h⟩ := demo_steps
  exact ⟨demo, t, @of_decide_eq_true _ (imageInvDec demo) (by decide +kernel), h⟩

theorem witness_StepKeepsCalibrationAndWatches : ∃ s t, CalInv s ∧ WatchInv s ∧ step s = .next t := by
  obtain ⟨t, h⟩ := demo_steps
  exact ⟨demo, t, @of_decide_eq_true _ (calInvDec demo) (by decide +kernel), @of_decide_eq_true _ (watchInvDec demo) (by decide +kernel), h⟩

theorem witness_StepKeepsLinks : ∃ s t, LinkInv s ∧ step s = .next t := by
  obtain ⟨t, h⟩ := demo_steps
  exact ⟨demo, t, @of_decide_eq_true _ (linkInvDec demo) (by decide +kernel), h⟩

/-- The same after a RESET: in RESETTING with the frame in flight, and the port's next grant. -/
theorem witness_StepKeepsLinks_resetting : ∃ s t, s.device = .resetting ∧ LinkInv s ∧ step s = .next t := by
  obtain ⟨t, h⟩ : ∃ t, step (after .reset demo) = .next t := exists_next (by decide +kernel)
  exact ⟨after .reset demo, t, by decide +kernel,
    @of_decide_eq_true _ (linkInvDec (after .reset demo)) (by decide +kernel), h⟩

theorem witness_StepKeepsTheTable : ∃ s t, TableInv s ∧ step s = .next t := by
  obtain ⟨t, h⟩ := demo_steps
  exact ⟨demo, t, by unfold TableInv; decide +kernel, h⟩

theorem witness_StepKeepsRingsAndCounts : ∃ s t, RingInv s ∧ CountInv s ∧ step s = .next t := by
  obtain ⟨t, h⟩ := demo_steps
  exact ⟨demo, t, by unfold RingInv SubRing.Ok OutRing.Ok; decide +kernel,
    by unfold CountInv; decide +kernel, h⟩

theorem witness_StepKeepsTheLoader : ∃ s t, LoaderInv s ∧ step s = .next t := by
  obtain ⟨t, h⟩ := demo_steps
  exact ⟨demo, t, by unfold LoaderInv; decide +kernel, h⟩

/-- What the step does: address 9 is CLEAN with the value written. -/
theorem test_demo_step : (after (.frameEnd 0 (ack 0)) demo).lanes[(0 : Fin 16)].image.get 9 =
    ent (some 0x3C) none none (some 0x3C) (some 0x3C) .clean := by decide +kernel

/-- One millisecond: poll timers below and at the poll period, an absent one and a DETACHED lane, waiters with
limits 1, 2 and none of which one expires; and RESETTING. -/
theorem witness_EmptyQueueIsOneMillisecond :
    let s := ((up 0 { active with pollTimer := 98, waiters :=
        [{ id := id7, remaining := some 1 }, { id := id7, remaining := some 2 },
         { id := id7, remaining := none }] }).setLane 1
      { active with pollTimer := 99 }).setLane 2
      { active with options := { Options.default with pollPeriod := 0 } }
    let u : State := { s with table := [oct id7 0 (.laneSync 1) .active] }
    let expired (l : Fin 16) : List Waiter :=
      u.lanes[l].waiters.filter fun w => decide (w.remaining = some 0 ∨ w.remaining = some 1)
    let all := (List.finRange 16).flatMap fun l => (expired l).map (·.id)
    (all = [id7] ∧ all.Nodup ∧ (∀ id ∈ all, ∃ e ∈ u.table, e.id = id ∧ e.finished = false) ∧
      (u.table.map (·.id)).Nodup ∧ u.pending = []) ∧
    s.pending = [] ∧ s.device ≠ .resetting ∧
      s.lanes[(0 : Fin 16)].pollTimer + 1 < s.lanes[(0 : Fin 16)].options.pollPeriod ∧
      s.lanes[(0 : Fin 16)].state ≠ .detached ∧
      s.lanes[(1 : Fin 16)].options.pollPeriod ≤ s.lanes[(1 : Fin 16)].pollTimer + 1 ∧
      s.lanes[(1 : Fin 16)].options.pollPeriod ≠ 0 ∧ s.lanes[(1 : Fin 16)].state ≠ .detached ∧
      s.lanes[(2 : Fin 16)].options.pollPeriod = 0 ∧ s.lanes[(3 : Fin 16)].state = .detached ∧
      ({ State.reset with device := .resetting } : State).pending = [] := by decide +kernel

/-- R67: limits that expire in two lanes finish TIMEOUT, lane 0 first; R93: lane 1's timer ticks. -/
theorem test_millisecond :
    let id (n : Tag) : CmdId := { ring := 0, tag := n }
    let s : State := { (up 0 { active with waiters := [{ id := id 2, remaining := some 1 }] }).setLane 1
        { active with pollTimer := 99, waiters := [{ id := id 1, remaining := some 1 }] } with
      table := [oct (id 1) 1 (.laneSync 1) .active, oct (id 2) 0 (.laneSync 1) .active] }
    let t := s.timebaseTick
    t.finishList = [.entry (id 2), .entry (id 1)] ∧ t.lanes[(1 : Fin 16)].round = some .atCheck ∧
      t.lanes[(1 : Fin 16)].waiters = [] ∧
      t.table.map (·.stage) = [.finished .timeout none (some 2), .finished .timeout none (some 2)] := by
  decide +kernel

/-! ### Witnesses: images, calibration, watches, events -/

/-- `Entry.Ok` by its five conditions. -/
theorem entry_ok {o : LayerOrder} {e : Entry} (h : (entryOkDec o e).decide = true) : e.Ok o :=
  @of_decide_eq_true _ (entryOkDec o e) h

/-- A CLEAN entry of base 0x11, and a PENDING one. -/
def clean11 : Entry := ent (some 0x11) none none (some 0x11) (some 0x11) .clean

/-- A DIRTY entry of base 0x12, with 0x11 applied. -/
def dirty12 : Entry := ent (some 0x12) none none (some 0x12) (some 0x11) .dirty

/-- The intended value stays; it changes at a PENDING entry; it becomes absent; equals applied; differs. -/
theorem witness_LayerChangeRederives :
    clean11.Ok .holdFirst ∧ (pend 0).Ok .calFirst ∧ dirty12.Ok .holdFirst ∧
      (some 0x11#8 = clean11.intended) ∧
      ((pend 0).state = .pending ∧ some 0x3D#8 ≠ (pend 0).intended) ∧
      (none ≠ clean11.intended ∧ clean11.state ≠ .pending) ∧
      (some 0x11#8 ≠ dirty12.intended ∧ some 0x11#8 = dirty12.applied ∧ dirty12.state ≠ .pending) ∧
      (some 0x13#8 ≠ clean11.intended ∧ some 0x13#8 ≠ clean11.applied) :=
  ⟨entry_ok (by decide), entry_ok (by decide), entry_ok (by decide), by decide⟩

/-- `Image.QueueExact` by its three conditions. -/
theorem queue_exact {im : Image} (h : im.queue.Nodup ∧ (∀ a ∈ im.queue, a ∈ addresses) ∧
    ∀ a ∈ addresses, (a ∈ im.queue ↔ (im.get a).state = .dirty)) : im.QueueExact := h

/-- An image with address 63 at the head of the queue and address 1 behind it. -/
def twoDirty : Image := img [(1, dirty12), (7, clean11), (63, dirty12)] [63, 1]

/-- One address leaves, one keeps its place, one joins. -/
theorem witness_QueueFollowsTheEntries :
    let f (a : Nat) (e : Entry) : Entry :=
      if a = 63 then { e with state := .clean } else if a = 7 then { e with state := .dirty } else e
    twoDirty.QueueExact ∧ (twoDirty.mapEntries f).queue = [1, 7] :=
  ⟨queue_exact (by decide +kernel), by decide +kernel⟩

theorem witness_RebuildReplaysTheImage :
    (∀ a ∈ addresses, (twoDirty.get a).Ok .holdFirst ∧ (twoDirty.get a).state ≠ .pending) ∧
      twoDirty.rebuild.queue = [1, 7, 63] := by
  have h : ∀ a ∈ addresses, (entryOkDec .holdFirst (twoDirty.get a)).decide = true ∧
      (twoDirty.get a).state ≠ .pending := by decide +kernel
  exact ⟨fun a ha => ⟨entry_ok (h a ha).1, (h a ha).2⟩, by decide +kernel⟩

/-- Readings at both ends of the clamp, and lanes in MANUAL and in AUTO without an index. -/
theorem witness_RowOfReading :
    ((-41 + 40 : Int) / 5 < 0 ∧ (rowOf (-41)).val = 0) ∧ (31 < (120 + 40 : Int) / 5 ∧ (rowOf 120).val = 31) ∧
      (0 ≤ (-40 + 40 : Int) / 5 ∧ (rowOf (-40)).val = 0) ∧ ((119 + 40 : Int) / 5 ≤ 31 ∧ (rowOf 119).val = 31) ∧
      (rowOf (-35)).val = 1 ∧ (rowOf 114).val = 30 ∧
      { active.options with indexMode := .manual }.indexMode = .manual ∧
      active.options.indexMode = .auto ∧ active.index = none := by decide

/-- Both thresholds of R111 at index 13 with hysteresis 2 (32 up, 22 down), one degree short of each, an absent
index and MANUAL. -/
theorem witness_ReadingMovesTheIndex :
    let L : Lane := { active with index := some 13 }
    ((13 : Fin 32) < rowOf (32#8).toInt ∧ 5 * ((13 : Int) + 1) - 40 + 2 ≤ (32#8).toInt) ∧
      ¬ 5 * ((13 : Int) + 1) - 40 + 2 ≤ (31#8).toInt ∧
      (rowOf (22#8).toInt < (13 : Fin 32) ∧ (22#8).toInt ≤ 5 * (13 : Int) - 41 - 2) ∧
      ¬ (23#8).toInt ≤ 5 * (13 : Int) - 41 - 2 ∧
      L.options.indexMode = .auto ∧ L.options.hysteresis = 2 ∧ active.index = none ∧
      { L.options with indexMode := .manual }.indexMode ≠ .auto ∧
      (let c : Column := { target := 63, rows := Vector.replicate 32 7 }
       ([c].map (·.target)).Nodup ∧ c ∈ [c] ∧ ∀ d ∈ [c], d.target ≠ 62) := by decide

/-- A reading of 71 at watch 2 of Section 5.10: both high conditions hold; at 60 neither does. -/
theorem witness_ComparisonSetsFlags :
    let w := watch510 Flags.clear none
    (∃ num : Byte → Int, (∀ b, num b = if w.signed then b.toInt else (b.toNat : Int)) ∧
      (false = true ↔ ∃ b, w.alarmLow = some b ∧ num 71 < num b) ∧
      (true = true ↔ ∃ b, w.alarmHigh = some b ∧ num b < num 71) ∧
      (false = true ↔ ∃ b, w.warnLow = some b ∧ num 71 < num b) ∧
      (true = true ↔ ∃ b, w.warnHigh = some b ∧ num b < num 71)) ∧
    ¬ ∃ b, w.warnHigh = some b ∧ b.toInt < (60#8).toInt := by
  refine ⟨⟨fun b => b.toInt, fun b => rfl, ?_, ?_, ?_, ?_⟩, ?_⟩ <;> simp [watch510, Watch.reset]

/-- A masked event; a HALTED part; a full event ring; one slot left; a condition that rises and one that stands. -/
theorem witness_EventsAndCauses :
    let e : Event := .watchRefused 0 0 5
    let s := up 0 active
    let full (n : Nat) : State := { s with eq := { s.eq with ring := { s.eq.ring with occupied := n } } }
    (0xFFFF#16).getLsbD e.code = true ∧ s.eq.mask.getLsbD e.code = false ∧ s.device = .running ∧
      State.reset.device ≠ .running ∧ State.reset.eq.mask.getLsbD e.code = false ∧
      (full 16).eq.ring.size ≤ (full 16).eq.ring.occupied + (full 16).eq.pending.length ∧
      (full 15).eq.ring.occupied + (full 15).eq.pending.length < (full 15).eq.ring.size ∧
      (let c := { Causes.clear with error := true }
       interruptCondition Causes.clear c = false ∧ interruptCondition (Causes.clear.union c) c = true) ∧
      s.transfers = [] ∧
      { s with transfers := [.fetch 0 0] }.transfers = .fetch 0 0 :: [] ∧ Transfer.fetch 0 0 ≠ .message := by
  decide +kernel

/-! ### Witnesses: frames and layouts -/

/-- The last bit time of a window of 8 and the first past it; the four code pairs; both parities of a read. -/
theorem witness_FramesOfTheLink :
    (Tx.wb 63 0xFF).written = some 0xFF ∧ Tx.check.written = none ∧
      ((ack 0).startBit = some 2 ∧ 2 ≤ 8) ∧ silent.startBit = none ∧
      ({ silent with startBit := some 9 }.startBit = some 9 ∧ 8 < 9) ∧
      (nak.code1 = false ∧ nak.code2 = true) ∧ par.code1 = par.code2 ∧
      ((ack 3).code1 = true ∧ (ack 3).code2 = false) ∧
      settle 64 .check (ack 1) = .done 1 ∧
      settle 64 .check { ack 1 with parity := false } = .failed .parity ∧
      settle 8 .check { ack 1 with startBit := some 8 } = .done 1 ∧
      settle 8 .check { ack 1 with startBit := some 9 } = .failed .noResponse := by decide +kernel

/-- A CAL block of one column of target `t`. -/
def oneColumn (t : Byte) : List Byte := block 2 1 0 (t :: List.replicate 35 7)

/-- A wrong sum; a wrong kind, count and next address; wrong entries; two BASE entries of one address; a ninth
and an eighth column; a WATCH record. -/
theorem witness_ChecksumComesFirst :
    let staged (n : Nat) : Staging := { Staging.reset with
      columns := (List.range n).map fun k =>
        { column := { target := k + 1, rows := Vector.replicate 32 0 }, block := 1 } }
    let fails (bs : List Byte) (st : Staging) (e : ChainErr) : Bool :=
      match checkBlock 1 bs st with
      | .error f => decide (f = e)
      | .ok _ => false
    let base (bs : List Byte) (a : Fin 63) : Option BaseAction :=
      match checkBlock 1 bs Staging.reset with
      | .error _ => none
      | .ok st => st.base[a]
    fails ((block 1 1 0 [5, 1, 0, 0]).set 4 1) Staging.reset .checksum = true ∧
    fails (block 4 1 0 []) Staging.reset .badBlock = true ∧
    fails (block 1 61 0 []) Staging.reset .badBlock = true ∧
    fails (block 1 0 0 []) Staging.reset .badBlock = true ∧
    fails (block 1 1 0x20 [5, 1, 0, 0]) Staging.reset .badBlock = true ∧
    fails (block 1 1 0 [64, 1, 0, 0]) Staging.reset .badEntry = true ∧
    fails (oneColumn 7) (staged 7) .badEntry = true ∧ fails (oneColumn 9) (staged 8) .tableFull = true ∧
    base (block 1 2 0 [5, 1, 0, 0, 5, 2, 1, 0]) 4 = some .clear ∧
    base (block 1 60 0 ((List.replicate 60 [63, 2, 0, 0]).flatten)) 62 = some (.set 2) ∧
    (match checkBlock 2 (oneColumn 9) (staged 7) with
     | .ok st => decide (st.columns.drop 7 =
        [{ column := { target := 9, rows := Vector.replicate 32 7 }, block := 2 }])
     | .error _ => false) = true ∧
    (match checkBlock 2 (block 3 1 0 [7, 1, 63, 0, 0]) (staged 8) with
     | .ok st => decide (st.watches[7] =
        some { watch := { Watch.reset with state := .active, address := 63 }, block := 2 })
     | .error _ => false) = true ∧ (staged 8).columns.length ≤ 8 := by
  decide +kernel

/-- The largest head, lost-event count and queue. -/
theorem witness_RecordsHaveTheirLayout :
    1023 < 1024 ∧ 65535 ≤ 65535 ∧
      (let im : Image := { entries := Vector.replicate 63 dirty12, queue := addresses }
       im.queue.length ≤ 63 ∧ (63 : Nat) ∈ addresses) ∧
      (let c (t : Nat) : Column := { target := t, rows := Vector.replicate 32 7 }
       [c 1, c 9].Perm [c 9, c 1] ∧ [c 1, c 9].Pairwise (fun x y => x.target < y.target) ∧
         [c 9, c 1].length ≤ 8) ∧
      (1000 ≤ 1000 ∧ Options.default.retryLimit ≤ 3 ∧ Options.default.hysteresis ≤ 4) := by decide +kernel

/-! ### Witnesses: acceptance -/

/-- A record for lane 0 activates at once, whatever lane 0 holds. -/
theorem activates_up (L : Lane) (c : Cmd) : Activates (up 0 L) (rq 0 c) 0 :=
  ⟨rfl, rfl, by simp [up, State.reset], rfl, by simp [up, State.reset, heldBack]⟩

/-- Lane 0 is the lane given. -/
theorem lane_up (L : Lane) : (up 0 L).lanes[(0 : Fin 16)] = L := by simp [up]

/-- With a transaction of lane 0 in flight on port 0 a record for it still activates. -/
theorem activates_sending (L : Lane) (tx : Tx) (c : Cmd) : Activates (sending 0 0 tx (up 0 L)) (rq 0 c) 0 :=
  activates_up L c

theorem witness_NopCompletes : (up 0 active).intakeOpen 0 = true ∧ ∀ e ∈ (up 0 active).table, e.id ≠ id7 := by
  decide +kernel

/-- OBSERVE and a REG_SET; an outstanding tag; lanes 16 and 15, the latter behind a WAITING command and behind
an ACTIVE barrier. -/
theorem witness_AcceptanceAndBarrier :
    let s := up 0 active
    let ring : SubRing := { SubRing.reset with state := .active, rights := .observe }
    let watching : State := { s with rings := Vector.replicate 4 ring }
    let behind (st : Stage) (c : Cmd) : State := { s with table := [oct { ring := 0, tag := 6 } 15 c st] }
    let set : Cmd := .regSet 1 0 1 true
    (watching.intakeOpen 0 = true ∧ watching.rings[(0 : Fin 4)].rights = .observe ∧
      set ≠ .nop ∧ (∀ n, set ≠ .laneSync n) ∧ (∀ a, set ≠ .readDirect a) ∧ ∀ b, set ≠ .laneReport b) ∧
    ({ s with table := [oct id7 0 .nop .active] }.intakeOpen 0 = true ∧
      permits s.rings[(0 : Fin 4)].rights .nop = true ∧ ∃ e ∈ [oct id7 0 .nop .active], e.id = id7) ∧
    15 < (16#8).toNat ∧ (15#8).toNat ≤ 15 ∧
    (∃ e ∈ (behind .waiting set).table, e.id.ring = 0 ∧ e.cmd ≠ .nop ∧ e.lane = 15 ∧ e.stage = .waiting) ∧
    (∃ e ∈ (behind .active .laneQuiesce).table, e.id.ring = 0 ∧ e.cmd ≠ .nop ∧ e.lane = 15 ∧
      e.stage = .active ∧ e.cmd.barrier = true) ∧
    (behind .waiting set).intakeOpen 0 = true ∧ ∀ e ∈ (behind .waiting set).table, e.id ≠ id7 := by
  refine ⟨⟨by decide +kernel, by decide +kernel, by simp, by simp, by simp, by simp⟩, ?_⟩
  decide +kernel

/-- One WAITING entry behind a barrier, and one behind an entry that holds nothing back. -/
theorem witness_ReleaseLeavesNoneReleasable :
    let first := oct { ring := 0, tag := 6 } 0 .laneQuiesce .active
    let other := oct { ring := 0, tag := 6 } 0 (.laneSync 0) .active
    let second := oct id7 0 (.regSet 1 0 1 true) .waiting
    { up 0 active with table := [first, second] }.release.table = [first] ++ second :: [] ∧
      second.stage = .waiting ∧ heldBack [first] 0 0 second.cmd = true ∧
      heldBack [other] 0 0 second.cmd = false ∧
      (State.release { up 0 active with table := [other, second] }).table.map (·.stage) =
        [.active, .finished .ok none (some (resultWord 1 (1 + 16 * 2) 0 0))] := by decide +kernel

/-- A watch record whose limits are equal, signed, and one whose temperature source is not signed. -/
def recordOk1 : WatchRecord :=
  { index := 7, state := 1, address := 63, options := 7, presence := 15, alarmLow := 0xEC,
    alarmHigh := 0xEC, warnLow := 60, warnHigh := 60 }

theorem witness_ParametersAreRead :
    optionsOver Options.default keepAll = some Options.default ∧
    (optionsOver Options.default { keepAll with pollPeriod := 1000, retryLimit := 3, hysteresis := 4 }).isSome ∧
    optionsOver Options.default { keepAll with pollPeriod := 1001 } = none ∧
    (∃ (num : Byte → Int) (limit : Nat → Byte → Option Byte),
      (∀ b, num b = if recordOk1.options.getLsbD 0 then b.toInt else (b.toNat : Int)) ∧
      ∀ n b, limit n b = if recordOk1.presence.getLsbD n then some b else none) ∧
    (readWatch recordOk1).isSome ∧ readWatch { recordOk1 with options := 6 } = none ∧
    readWatch { recordOk1 with address := 64 } = none ∧
    readWatch { recordOk1 with alarmLow := 0xED } = none ∧
    (byteAt (recordOf [0x41]) 0).toNat = 0x41 ∧
    (byteAt (recordOf [0x07]) 0).toNat ∉ [0x00, 0x01, 0x02, 0x03, 0x04, 0x05, 0x06, 0x10, 0x11, 0x12, 0x20,
      0x21, 0x30, 0x31, 0x40, 0x41] := by
  exact ⟨by decide, by decide, by decide, ⟨_, _, fun _ => rfl, fun _ _ => rfl⟩, by decide, by decide,
    by decide, by decide, by decide, by decide⟩

/-! ### Witnesses: lane commands -/

/-- In range at port 3 and not at port 4; DETACHED, ACTIVE, and with a conflict. -/
theorem witness_AttachBeginsAProbe :
    let s := up 1 active
    (Activates s (rq 0 (.laneAttach 3 3 keepAll)) 0 ∧
      (optionsOver Options.default keepAll).isSome ∧ (3#8).toNat ≤ 3 ∧
      (∃ p : Fin 4, (3#8).toNat = p.val ∧ s.ports[p].enabled = true) ∧
      s.lanes[(0 : Fin 16)].state = .detached ∧
      ∀ m : Fin 16, s.lanes[m].state ≠ .detached →
        s.lanes[m].binding ≠ some { port := 3, select := 3 }) ∧
    (¬ ∃ p : Fin 4, (4#8).toNat = p.val ∧ s.ports[p].enabled = true) ∧
    (Activates (up 0 active) (rq 0 (.laneAttach 3 3 keepAll)) 0 ∧
      (up 0 active).lanes[(0 : Fin 16)].state ≠ .detached) ∧
    ∃ m : Fin 16, s.lanes[m].state ≠ .detached ∧ ∃ b : Binding, s.lanes[m].binding = some b ∧
      b.port.val = (0#8).toNat ∧ b.select.val = (0#8).toNat := by
  refine ⟨⟨by unfold Activates; decide +kernel, by decide +kernel, by decide, by decide +kernel,
    by decide +kernel, by decide +kernel⟩, by decide +kernel, ⟨activates_up _ _, by decide +kernel⟩,
    ⟨1, by decide +kernel, { port := 0, select := 0 }, by decide +kernel⟩⟩

/-- Lane 0 ACTIVE with a SYNC waiter, a direct request and a load waiting. -/
def busy : State :=
  { up 0 { active with
      waiters := [{ id := { ring := 0, tag := 1 }, remaining := none }],
      directs := [{ id := { ring := 0, tag := 2 }, addr := 0, value := none, retries := 0 }] } with
    table := [oct { ring := 0, tag := 1 } 0 (.laneSync 0) .active,
              oct { ring := 0, tag := 2 } 0 (.readDirect 0) .active,
              oct { ring := 1, tag := 3 } 0 (.chainLoad 0 0) .active],
    loader := { Loader.reset with
      queue := [{ id := { ring := 1, tag := 3 }, lane := 0, mode := .replace, first := 0 }],
      discarded := true } }

/-- LANE_DETACH with the loader at each of its cases: another lane's load active; the lane's active, with its read
started, and not started with a load behind it and with none. -/
theorem witness_DetachClearsOrWaits_loader :
    let load (l : Fin 16) : ActiveLoad :=
      { id := { ring := 1, tag := 4 }, lane := l, mode := .merge, stage := .read 0x40, position := 1, blocksRead := 0 }
    let s (l : Fin 16) (started : Bool) (queue : List Load) : State := { busy with
      table := busy.table ++ [oct { ring := 1, tag := 4 } 0 (.chainLoad 1 0x40) .active],
      loader := { Loader.reset with active := some (load l), queue := queue },
      transfers := [.blockRead 0x40 started] }
    let next : Load := { id := { ring := 1, tag := 3 }, lane := 1, mode := .replace, first := 0x100 }
    (∀ l b, Activates (s l b [next]) { rq 0 .laneDetach with id := { ring := 2, tag := 7 } } 0) ∧
      (∀ a ∈ (s 1 true [next]).loader.active, a.lane ≠ 0) ∧
      (∃ x, Transfer.blockRead x true ∈ (s 0 true [next]).transfers) ∧
      (∀ x, Transfer.blockRead x true ∉ (s 0 false [next]).transfers) ∧
      ((s 0 false [next]).loader.queue.filter fun q => decide (q.lane ≠ 0)) = next :: [] ∧
      ((s 0 false []).loader.queue.filter fun q => decide (q.lane ≠ 0)) = [] := by
  refine ⟨?_, by decide +kernel, ⟨0x40, by decide +kernel⟩, by simp, by decide +kernel, by decide +kernel⟩
  unfold Activates; decide +kernel

/-- DETACHED, DETACHING, and attached with three commands to abort, without and with a frame in flight. -/
theorem witness_DetachClearsOrWaits :
    (Activates (up 0 Lane.reset) (rq 0 .laneDetach) 0 ∧ Lane.reset.state = .detached) ∧
    (Activates (up 0 (inState .detaching)) (rq 0 .laneDetach) 0 ∧ (inState .detaching).state = .detaching) ∧
    Activates busy { rq 0 .laneDetach with id := { ring := 2, tag := 7 } } 0 ∧
    (∃ aborted : List CmdId,
      aborted = busy.lanes[(0 : Fin 16)].transition.toList ++ busy.lanes[(0 : Fin 16)].waiters.map (·.id) ++
        busy.lanes[(0 : Fin 16)].directs.map (·.id) ++
        ((busy.loader.active.filter fun a => decide (a.lane = 0)).map (·.id)).toList ++
        (busy.loader.queue.filter fun q => decide (q.lane = 0)).map (·.id) ∧
      aborted.Nodup ∧ aborted.length = 3 ∧
      ∀ i ∈ aborted, ∃ e ∈ busy.table, e.id = i ∧ e.finished = false) ∧
    busy.lanes[(0 : Fin 16)].state = .active ∧ busy.inFlight 0 = none ∧
    (sending 0 0 (.directRead 0) busy).inFlight 0 ≠ none ∧
    Activates (sending 0 0 (.directRead 0) busy) { rq 0 .laneDetach with id := { ring := 2, tag := 7 } } 0 := by
  refine ⟨⟨activates_up _ _, rfl⟩, ⟨activates_up _ _, rfl⟩, by unfold Activates; decide +kernel,
    ⟨_, rfl, by decide +kernel, by decide +kernel, by decide +kernel⟩, by decide +kernel,
    by decide +kernel, by decide +kernel, by unfold Activates; decide +kernel⟩

/-- A hysteresis of 5; an accepted block, DETACHED and ACTIVE. -/
theorem witness_LaneSetChangesOptions :
    (∀ L : Lane, Activates (up 0 L) (rq 0 (.laneSet { keepAll with hysteresis := 4 })) 0) ∧
    optionsOver Options.default { keepAll with hysteresis := 5 } = none ∧
    optionsOver Options.default { keepAll with hysteresis := 4 } =
      some { Options.default with hysteresis := 4 } ∧
    Lane.reset.state = .detached ∧ active.state ≠ .detached ∧ active.state ≠ .detaching := by
  exact ⟨fun L => activates_up L _, by decide, by decide, rfl, by decide, by decide⟩

/-- ACTIVE without and with a frame in flight, QUIESCED and another state; and QUIESCED, FAULTED and another
for LANE_RESUME. -/
theorem witness_QuiesceAndResume :
    (∀ L : Lane, Activates (up 0 L) (rq 0 .laneQuiesce) 0 ∧ Activates (up 0 L) (rq 0 .laneResume) 0 ∧
      (up 0 L).lanes[(0 : Fin 16)] = L) ∧
    (active.state = .active ∧ (up 0 active).inFlight 0 = none) ∧
    (Activates (sending 0 0 .check (up 0 active)) (rq 0 .laneQuiesce) 0 ∧
      (sending 0 0 .check (up 0 active)).inFlight 0 = some .check) ∧
    ((inState .faulted).state ≠ .active ∧ (inState .faulted).state ≠ .quiesced) := by
  exact ⟨fun L => ⟨activates_up L _, activates_up L _, lane_up L⟩, by decide +kernel,
    ⟨activates_sending _ _ _, by decide +kernel⟩, by decide⟩

/-- An ACTIVE lane with address 5 DIRTY. -/
def behindHost : Lane :=
  { active with image := img [(5, ent (some 1) none none (some 1) none .dirty)] [5] }

/-- DETACHED, in sync, FAULTED, and ACTIVE with a queue. -/
theorem witness_SyncWaitsForTheLane :
    (∀ L : Lane, Activates (up 0 L) (rq 0 (.laneSync 0)) 0 ∧ (up 0 L).lanes[(0 : Fin 16)] = L) ∧
    (active.state = .active ∧ active.image.queue = [] ∧
      ∀ a ∈ addresses, (active.image.get a).state ≠ .pending) ∧
    (behindHost.image.queue ≠ [] ∧ behindHost.state = .active) ∧
    (inState .faulted).state = .faulted := by
  exact ⟨fun L => ⟨activates_up L _, lane_up L⟩, by decide +kernel, by decide +kernel, rfl⟩

/-- Addresses 0, 64, 1 and 63, layers 2 and 1; DETACHED and ACTIVE; both layers written. -/
theorem witness_RegSetChangesOneLayer :
    (∀ (L : Lane) (a y v : Byte) (b : Bool), Activates (up 0 L) (rq 0 (.regSet a y v b)) 0 ∧
      (up 0 L).lanes[(0 : Fin 16)] = L) ∧
    (0#8).toNat = 0 ∧ 63 < (64#8).toNat ∧ 1 < (2#8).toNat ∧
    (1 ≤ (1#8).toNat ∧ (63#8).toNat ≤ 63 ∧ (1#8).toNat ≤ 1) ∧
    (let e := (after (.regSet 0 7 0 63 1 9 true) (up 0 active)).lanes[(0 : Fin 16)].image.get 63
     e.intended = some 9 ∧ e.hold = some 9 ∧ e.base = none) ∧
    (let e := (after (.regSet 0 7 0 1 0 9 true) (up 0 active)).lanes[(0 : Fin 16)].image.get 1
     e.intended = some 9 ∧ e.base = some 9 ∧ e.state = .dirty) := by
  exact ⟨fun L _ _ _ _ => ⟨activates_up L _, lane_up L⟩, by decide +kernel⟩

/-- Addresses 63 and 64, for a write 0 and 1 too; every lane state that takes a request and one that does not. -/
theorem witness_DirectRequestsJoinTheList :
    (∀ (L : Lane) (a v : Byte), Activates (up 0 L) (rq 0 (.readDirect a)) 0 ∧
      Activates (up 0 L) (rq 0 (.writeDirect a v)) 0 ∧ (up 0 L).lanes[(0 : Fin 16)] = L) ∧
    63 < (64#8).toNat ∧ (63#8).toNat ≤ 63 ∧ (0#8).toNat = 0 ∧ 1 ≤ (1#8).toNat ∧
    active.state = .active ∧ active.state ≠ .quiesced ∧ active.state ≠ .faulted ∧
    (inState .quiesced).state = .quiesced ∧ Lane.reset.state = .detached := by
  exact ⟨fun L _ _ => ⟨activates_up L _, activates_up L _, lane_up L⟩, by decide⟩

/-- A record that does not read; one that reads, DETACHED; a second temperature source; the only one. -/
theorem witness_WatchSetReplacesOneWatch :
    (∀ (L : Lane) (rec : WatchRecord), Activates (up 0 L) (rq 0 (.watchSet rec)) 0 ∧
      (up 0 L).lanes[(0 : Fin 16)] = L) ∧
    readWatch { recordOk1 with index := 8 } = none ∧
    (∃ w, readWatch recordOk1 = some (7, w) ∧ w.tempSource = true) ∧
    (let ws := Lane.reset.watches.set 0 { watch510 Flags.clear none with tempSource := true }
     ∃ j : Fin 8, j ≠ 7 ∧ ws[j].tempSource = true) ∧
    ∀ j : Fin 8, j ≠ 7 → active.watches[j].tempSource = false := by
  refine ⟨fun L _ => ⟨activates_up L _, lane_up L⟩, by decide, ⟨_, rfl, by decide⟩, by decide +kernel,
    by decide +kernel⟩

/-- R104: a POLL of watch 7 in flight, due for retry, and neither. -/
theorem witness_PollOf :
    active.PollOf (some (.poll 7 33)) 7 ∧ { active with retryDue := some (.poll 7 33) }.PollOf none 7 ∧
      ¬ active.PollOf (some (.poll 6 33)) 7 ∧ ¬ active.PollOf none 7 := by
  simp [Lane.PollOf, active, Lane.reset]

/-- DETACHED; ACTIVE with watches 0 and 7 named, and AH of watch 7. -/
theorem witness_FlagsClearClearsNamedFlags :
    (∀ L : Lane, Activates (up 0 L) (rq 0 (.flagsClear 0x81 0x02)) 0 ∧ (up 0 L).lanes[(0 : Fin 16)] = L) ∧
    Lane.reset.state = .detached ∧ active.state ≠ .detached ∧ active.state ≠ .detaching ∧
    ∃ ws : Vector Watch 8, ∀ i : Fin 8, ws[i] =
      if (0x81#8).getLsbD i.val then
        { active.watches[i] with flags :=
            { al := active.watches[i].flags.al && !(0x02#8).getLsbD 0,
              ah := active.watches[i].flags.ah && !(0x02#8).getLsbD 1,
              wl := active.watches[i].flags.wl && !(0x02#8).getLsbD 2,
              wh := active.watches[i].flags.wh && !(0x02#8).getLsbD 3 } }
      else active.watches[i] := by
  exact ⟨fun L => ⟨activates_up L _, lane_up L⟩, rfl, by decide, by decide, ⟨active.watches, by decide +kernel⟩⟩

/-- Indices 32, 31 and absent; AUTO and MANUAL, the index unchanged and changed; a table and none. -/
theorem witness_CalIndexAndCalClear :
    let manual : Lane := { active with options := { Options.default with indexMode := .manual } }
    let tabled : Lane := { active with table := [{ target := 63, rows := Vector.replicate 32 1 }] }
    (∀ (L : Lane) (i : Byte), Activates (up 0 L) (rq 0 (.calIndex i)) 0 ∧
      Activates (up 0 L) (rq 0 .calClear) 0 ∧ (up 0 L).lanes[(0 : Fin 16)] = L) ∧
    (32 ≤ (32#8).toNat ∧ (32#8) ≠ 0xFF#8) ∧ (31#8).toNat = (31 : Fin 32).val ∧
    active.options.indexMode = .auto ∧ manual.options.indexMode = .manual ∧ manual.state = .active ∧
    manual.index = none ∧ manual.index ≠ some 31 ∧ active.table = [] ∧ tabled.table ≠ [] := by
  exact ⟨fun L _ => ⟨activates_up L _, activates_up L _, lane_up L⟩, by decide⟩

/-- Mode 2 and address 0x20; DETACHED; eight loads waiting and seven; a discarded read; an idle loader. -/
theorem witness_ChainLoadEntersTheLoader :
    let withLoads (n : Nat) : State := { up 0 active with
      loader := { Loader.reset with
        discarded := true,
        queue := List.replicate n { id := { ring := 1, tag := 1 }, lane := 0, mode := .merge, first := 0 } } }
    (∀ (L : Lane) (m : Byte) (f : HostAddr), Activates (up 0 L) (rq 0 (.chainLoad m f)) 0 ∧
      (up 0 L).lanes[(0 : Fin 16)] = L) ∧
    1 < (2#8).toNat ∧ (0x20#64).toNat % 64 ≠ 0 ∧ (0x40#64).toNat % 64 = 0 ∧
    (Activates (withLoads 8) (rq 0 (.chainLoad 1 0x40)) 0 ∧ 8 ≤ (withLoads 8).loader.queue.length) ∧
    (Activates (withLoads 7) (rq 0 (.chainLoad 1 0x40)) 0 ∧ (withLoads 7).loader.queue.length < 8 ∧
      (withLoads 7).loader.discarded = true ∧ (withLoads 7).lanes[(0 : Fin 16)].state = .active) ∧
    ((up 0 active).loader.active = none ∧ (up 0 active).loader.discarded = false ∧
      (up 0 active).loader.queue = []) := by
  refine ⟨fun L _ _ => ⟨activates_up L _, lane_up L⟩, by decide, by decide, by decide,
    ⟨by unfold Activates; decide +kernel, by decide +kernel⟩,
    ⟨by unfold Activates; decide +kernel, by decide +kernel⟩, by decide +kernel⟩

/-- Buffers at 0x20 and 0x40, for a lane in any state. -/
theorem witness_ReportCapturesTheLane :
    (∀ (L : Lane) (b : HostAddr), Activates (up 0 L) (rq 0 (.laneReport b)) 0) ∧
      (0x20#64).toNat % 64 ≠ 0 ∧ (0x40#64).toNat % 64 = 0 := by
  exact ⟨fun L _ => activates_up L _, by decide⟩

/-! ### Witnesses: the device and its registers -/

/-- The part in a device state, with the setup read started where it is STARTING. -/
def inDevice (d : DeviceState) : State := { up 0 active with device := d }

/-- Writes of 4, 1, 2, 0 and 3 to CONTROL; HALTED with and without HOST_WRITE, and the other device states. -/
theorem witness_ControlTakesOneCommand :
    (4#32).getLsbD 2 = true ∧
    ((1#32).getLsbD 2 = false ∧ (1#32).getLsbD 0 = true ∧ (1#32).getLsbD 1 = false) ∧
    ((2#32).getLsbD 2 = false ∧ (2#32).getLsbD 0 = false ∧ (2#32).getLsbD 1 = true) ∧
    ((3#32).getLsbD 2 = false ∧ (3#32).getLsbD 0 = (3#32).getLsbD 1) ∧
    ((0#32).getLsbD 2 = false ∧ (0#32).getLsbD 0 = (0#32).getLsbD 1) ∧
    (State.reset.device = .halted ∧ State.reset.errorCode ≠ .hostWrite) ∧
    ({ State.reset with errorCode := .hostWrite } : State).errorCode = .hostWrite ∧
    (inDevice .running).device = .running ∧ (inDevice .stopping).device ≠ .running ∧
    (inDevice .resetting).device = .resetting := by decide +kernel

/-- RUNNING with a FINISHED command, one that ends at STOP and one that waits for its frame; and an empty table. -/
theorem witness_StopAbortsOutstanding :
    s107.device = .running ∧ (s107.table.map (·.id)).Nodup ∧
      (s107.table.filter (fun e => !e.finished && !s107.awaitsEnd e)).length = 1 ∧
      s107.table.countP (fun e => s107.awaitsEnd e) = 1 ∧
      (inDevice .running).table = [] ∧ (inDevice .running).finishList = [] ∧
      (inDevice .running).transfers = [] := by decide +kernel

/-- The Chain Loader at a STOP: its read started, and asked for but not started. -/
theorem witness_StopAbortsOutstanding_loader :
    LoaderInv demo ∧ (∃ x, Transfer.blockRead x true ∈ demo.transfers) ∧
      LoaderInv { demo with transfers := [.blockRead 0x40 false] } ∧
      demo.loader.active ≠ none ∧ (after .stop demo).transfers = [.blockRead 0x40 true] ∧
      (after .stop { demo with transfers := [.blockRead 0x40 false] }).transfers = [] := by
  refine ⟨by unfold LoaderInv; decide +kernel, ⟨0x40, by decide +kernel⟩, by unfold LoaderInv; decide +kernel,
    by decide +kernel, by decide +kernel, by decide +kernel⟩

/-- R67 against R156: tag 1 was fetched first but activated last, so its waiter stands last. -/
theorem test_stop_waiter_order :
    let sync (t : Tag) := oct { ring := 0, tag := t } 1 (.laneSync 0) .active
    let w (t : Tag) : Waiter := { id := { ring := 0, tag := t }, remaining := none }
    let s : State := { up 1 { active with waiters := [w 3, w 1] } with
      table := [sync 1, oct { ring := 1, tag := 2 } 2 .calClear .waiting, sync 3] }
    (after .stop s).finishList =
      [.entry { ring := 0, tag := 3 }, .entry { ring := 1, tag := 2 }, .entry { ring := 0, tag := 1 }] := by
  decide +kernel

/-- R141, R167, R170: with a fetch in flight STOP ends at the fetch's end. -/
theorem test_stop_waits_for_fetch :
    let t := after .stop { inDevice .running with transfers := [.fetch 0 0] }
    t.device = .stopping ∧ (after (.fetchEnd (.data (recordOf [0]))) t).device = .halted ∧
      (after (.fetchEnd (.data (recordOf [0]))) t).table = [] := by decide +kernel

/-- R161, R163: RESET empties the pending list and drops a message that waits its turn. -/
theorem test_reset_drops :
    let s : State := { inDevice .running with
      eq := { EventRing.reset with pending := [.watchRefused 0 0 5] },
      transfers := [.eventWrite 0 [] 0, .message] }
    (after .reset s).eq.pending = [] ∧ (after .reset s).transfers = [.eventWrite 0 [] 0] := by decide +kernel

/-- R163: a message due while a fetch is served goes at the fetch's end. -/
theorem test_message_in_turn :
    let s : State := { inDevice .running with
      intEnable := { Causes.clear with error := true }, transfers := [.fetch 0 0] }
    let t := after (.post 1 99) s
    t.transfers = [.fetch 0 0, .message] ∧ t.messages = 0 ∧
      (after (.fetchEnd (.data (recordOf [0]))) t).transfers = [] ∧
      (after (.fetchEnd (.data (recordOf [0]))) t).messages = 1 := by decide +kernel

/-- RESET with and without a frame in flight; RESETTING that ends, and that waits for a port and for a transfer. -/
theorem witness_ResetAndItsEnd :
    ((inDevice .running).device ≠ .resetting ∧ (inDevice .running).ports[(0 : Fin 4)].frame = none ∧
      (sending 0 0 .check (inDevice .running)).ports[(0 : Fin 4)].frame ≠ none) ∧
    ((inDevice .resetting).device = .resetting ∧ (∀ p : Fin 4, (inDevice .resetting).ports[p].frame = none) ∧
      (inDevice .resetting).transfers = []) ∧
    (∃ p : Fin 4, (sending 0 0 .check (inDevice .resetting)).ports[p].frame ≠ none) ∧
    { inDevice .resetting with transfers := [.fetch 0 0] }.transfers ≠ [] := by decide +kernel

/-- Tails 15 and 16 of a ring of 16; a ring that is OFF; the other device states. -/
theorem witness_PostMovesTheTail :
    let s := inDevice .running
    (s.device = .running ∧ s.rings[(0 : Fin 4)].state = .active ∧
      (15#16).toNat < s.rings[(0 : Fin 4)].size ∧ s.rings[(0 : Fin 4)].size ≤ (16#16).toNat) ∧
    { s with rings := Vector.replicate 4 SubRing.reset }.rings[(0 : Fin 4)].state ≠ .active ∧
    (inDevice .starting).device = .starting ∧ (inDevice .stopping).device = .stopping ∧
    (inDevice .halted).device = .halted ∧ (inDevice .resetting).device = .resetting := by decide +kernel

/-- Ten of ten slots returned, an eleventh, a head past the ring, and a full ring returned to its own head. -/
theorem witness_ReturnGivesSlotsBack :
    let o : OutRing := { OutRing.reset with writeSlot := 10, occupied := 10 }
    let full : OutRing := { OutRing.reset with occupied := 16 }
    (o.size ∈ ringSizes ∧ aligned64 o.base = true ∧ o.head < o.size ∧ o.occupied ≤ o.size ∧
      o.writeSlot = (o.head + o.occupied) % o.size) ∧
    ((10 + o.size - o.head) % o.size ≤ o.occupied ∧ (10#16).toNat < o.size) ∧
    o.occupied < (11 + o.size - o.head) % o.size ∧ o.size ≤ (16#16).toNat ∧
    (full.occupied = full.size ∧ full.writeSlot = (full.head + full.occupied) % full.size) ∧
    (inDevice .running).device = .running ∧ (inDevice .halted).device = .halted ∧
    (inDevice .resetting).device = .resetting := by decide +kernel

/-- RESETTING and not; a POST of ring 3, a RETURN of each ring. -/
theorem witness_RegisterWrites :
    (inDevice .resetting).device = .resetting ∧ (inDevice .halted).device ≠ .resetting ∧
      (0x00050003#32).toNat % 4 = (3 : Fin 4).val ∧ (0x00050000#32).toNat % 2 = 0 ∧
      (0x00050001#32).toNat % 2 = 1 ∧
      (let rising : State := { inDevice .halted with intState := { Causes.clear with error := true } }
       interruptCondition rising.intState rising.intEnable = false ∧
         interruptCondition rising.intState (Causes.ofBits 4 0) = true ∧ rising.transfers = [] ∧
         { rising with transfers := [.eventWrite 0 [] 0] }.transfers = .eventWrite 0 [] 0 :: []) := by decide

/-! ### Witnesses: the Host Port -/

/-- A setup block with rings 0, CQ and EQ of 16 slots and port 0 with a window of `w` bit times. -/
def setup (w : Byte) : List Byte :=
  let ring : List Byte := [0, 0x10, 0, 0, 0, 0, 0, 0, 16, 0, 1, 0, 0, 0, 0, 0]
  ring ++ List.replicate 48 0 ++ ring ++ ring ++ [1, 4, w, 0] ++ List.replicate 28 0

/-- A block that passes with the least window, and one with a shorter window. -/
theorem witness_SetupReadStartsThePart :
    let passes (bs : List Byte) : Prop :=
      (∃ q : Fin 4, (setupRing bs q).on = true) ∧
      (∀ q : Fin 4, (setupRing bs q).on = true →
        (setupRing bs q).size ∈ ringSizes ∧ (setupRing bs q).base.toNat % 64 = 0 ∧
          (setupRing bs q).rights.toNat ≤ 1) ∧
      (∀ r ∈ [setupCq bs, setupEq bs], r.on = true ∧ r.size ∈ ringSizes ∧ r.base.toNat % 64 = 0) ∧
      ∀ p : Fin 4, (setupPort bs p).enabled = true →
        (setupPort bs p).bitRate ∈ [1, 2, 4, 8] ∧ 8 ≤ (setupPort bs p).window ∧
          (setupPort bs p).window ≤ 64
    let at_ (started : Bool) (d : DeviceState) : State :=
      { State.reset with device := d, transfers := [.setupRead 0x40 started] }
    passes (setup 8) ∧ ¬ passes (setup 7) ∧
      (at_ false .starting).transfers = .setupRead 0x40 false :: [] ∧
      (at_ true .starting).transfers = .setupRead 0x40 true :: [] ∧ (at_ true .starting).device = .starting ∧
      (at_ true .resetting).device ≠ .starting ∧
      (after (.setupReadEnd (.data (setup 8))) (at_ true .starting)).device = .running ∧
      (after (.setupReadEnd (.data (setup 7))) (at_ true .starting)).errorCode = .setupInvalid := by
  decide +kernel

/-- The part with one posted record in ring 2. -/
def posted : State :=
  { up 0 active with
    intakePointer := 2,
    rings := (Vector.replicate 4 { SubRing.reset with state := .active }).set 2
      { SubRing.reset with state := .active, head := 15, tail := 0 } }

/-- The last ring looked at holds the only record; no record; a full table; a finish list. -/
theorem witness_FetchAsksForARecord :
    (posted.device = .running ∧ posted.fetchInFlight = false ∧ posted.table.length < 32 ∧
      posted.finishList = [] ∧ posted.rings[(2 : Fin 4)].head ≠ posted.rings[(2 : Fin 4)].tail ∧
      posted.rings[(2 : Fin 4)].state = .active ∧
      ∀ j : Fin 4, (j - posted.intakePointer - 1).val < ((2 : Fin 4) - posted.intakePointer - 1).val →
        ¬ (posted.rings[j].state = .active ∧ posted.rings[j].head ≠ posted.rings[j].tail)) ∧
    (∀ j : Fin 4, ¬ ((up 0 active).rings[j].state = .active ∧
      (up 0 active).rings[j].head ≠ (up 0 active).rings[j].tail)) ∧
    32 ≤ { posted with table := List.replicate 32 (oct id7 0 .nop .waiting) }.table.length ∧
    { posted with transfers := [.fetch 0 0] }.fetchInFlight = true ∧
    State.reset.device ≠ .running := by decide +kernel

/-- The last slot of a ring; a REG_SET, a NOP, an unknown kind; STOPPING, RESETTING and a ring in ERROR. -/
theorem witness_FetchTakesTheRecord :
    let s : State := { posted with transfers := [.fetch 2 0x1E0] }
    (s.transfers = .fetch 2 0x1E0 :: [] ∧ s.device = .running ∧ s.rings[(2 : Fin 4)].state = .active ∧
      ¬ s.rings[(2 : Fin 4)].head + 1 < s.rings[(2 : Fin 4)].size) ∧
    readCmd (recordOf [0x7F]) = none ∧
    readCmd (recordOf [0x10, 0, 7, 0, 5, 0, 0x20, 1]) = some (.regSet 5 0 0x20 true) ∧
    readCmd (recordOf [0]) = some .nop ∧
    { s with transfers := [] }.intakeOpen 2 = true ∧ s.table = [] ∧
    (inDevice .resetting).device = .resetting ∧ (inDevice .stopping).device = .stopping ∧
    { s with rings := Vector.replicate 4 { SubRing.reset with state := .error } }.rings[(2 : Fin 4)].state ≠
      .active := by decide +kernel

/-- One slot left and none; the last completion of STOPPING, and another; each device state. -/
theorem witness_CompletionsAreWritten :
    let item : FinishItem := .entry id7
    let done := oct id7 0 .calClear (.finished .ok none none)
    let s (d : DeviceState) (n : Nat) : State := { inDevice d with
      table := [done], finishList := [item], cq := { OutRing.reset with occupied := n, writeSlot := 15 } }
    (s .running 15).finishList = item :: [] ∧ (s .running 15).cq.occupied < (s .running 15).cq.size ∧
    (s .running 15).completionWriteInFlight = false ∧ (s .running 16).cq.size ≤ (s .running 16).cq.occupied ∧
    { s .running 15 with transfers := [.completionWrite 0 []] }.completionWriteInFlight = true ∧
    { s .running 15 with transfers := [.completionWrite 0 []] }.transfers = .completionWrite 0 [] :: [] ∧
    ((s .stopping 15).device = .stopping ∧
      (s .stopping 15).table.filter (fun e => decide (e.id ≠ id7)) = []) ∧
    ¬ (s .running 15).cq.writeSlot + 1 < (s .running 15).cq.size ∧
    (∃ x ∈ [Transfer.fetch 0 0], x.isFetch = true) ∧
    (s .halted 0).device = .halted ∧ (s .resetting 0).device = .resetting := by decide +kernel

/-- A refusal and a FINISHED entry at the head of the finish list; no element; a completion write and an event
write at its end in RESETTING. -/
theorem witness_records_at_the_edges :
    let done := oct id7 0 .calClear (.finished .ok none none)
    let s : State := { inDevice .running with table := [done], finishList := [.entry done.id] }
    let r : State := { inDevice .resetting with transfers := [.completionWrite 0 []] }
    let e : State := { inDevice .resetting with transfers := [.eventWrite 0 [] 0] }
    (s.table.map (·.id)).Nodup ∧ done ∈ s.table ∧ done.stage = .finished .ok none none ∧
      s.finishList = .entry done.id :: [] ∧
      { s with finishList := [.refusal id7 (some 5) .rights] }.finishList = .refusal id7 (some 5) .rights :: [] ∧
      (inDevice .running).finishList = [] ∧ (inDevice .running).eq.pending = [] ∧
      r.device = .resetting ∧ r.transfers = .completionWrite 0 [] :: [] ∧
      e.device = .resetting ∧ e.transfers = .eventWrite 0 [] 0 :: [] := by decide +kernel

/-- An event to write, its write in flight, and each device state; a write to the last slot. -/
theorem witness_EventsAreWritten :
    let e : Event := .watchRefused 0 0 5
    let s (d : DeviceState) : State := { inDevice d with
      eq := { EventRing.reset with
        ring := { OutRing.reset with writeSlot := 15 }, pending := [e], lost := 65535 } }
    let t : State := { s .running with transfers := [.eventWrite 0xF0 [] 3] }
    (s .running).eq.pending = e :: [] ∧ (s .running).device = .running ∧
      (s .running).eventWriteInFlight = false ∧ t.eventWriteInFlight = true ∧
      t.transfers = .eventWrite 0xF0 [] 3 :: [] ∧ ([] : List Transfer).countP Transfer.isEventWrite = 0 ∧
      ¬ t.eq.ring.writeSlot + 1 < t.eq.ring.size ∧ (s .halted).device = .halted ∧
      (s .starting).device = .starting ∧ (s .resetting).device = .resetting := by decide +kernel

/-- A block that passes. -/
theorem block_passes {p : Nat} {bs : List Byte} (h : (checkBlock p bs Staging.reset).toBool = true) :
    ∃ st, checkBlock p bs Staging.reset = .ok st := by
  cases hc : checkBlock p bs Staging.reset with
  | ok st => exact ⟨st, rfl⟩
  | error e => rw [hc] at h; cases h

/-- The error of an answer. -/
def errorOf (r : Except ChainErr Staging) : Option ChainErr :=
  match r with
  | .error e => some e
  | .ok _ => none

/-- A block that fails. -/
theorem block_fails {p : Nat} {bs : List Byte} {e : ChainErr}
    (h : errorOf (checkBlock p bs Staging.reset) = some e) : checkBlock p bs Staging.reset = .error e := by
  cases hc : checkBlock p bs Staging.reset with
  | ok st => rw [hc] at h; cases h
  | error e' => rw [hc] at h; cases h; rfl

/-- A block read not started and started, of a discarded load and of a load at positions 15 and 16, stopped
or not. -/
theorem witness_BlockReadsEnd :
    let load (n : Nat) : ActiveLoad :=
      { id := id7, lane := 0, mode := .merge, stage := .read 0x40, position := n, blocksRead := n - 1 }
    let s (n : Nat) (stop : Bool) : State := { inDevice .running with
      transfers := [.blockRead 0x40 true],
      table := [{ oct id7 0 (.chainLoad 1 0x40) .active with stopped := stop }],
      loader := { Loader.reset with active := some (load n) } }
    let last := block 1 1 0 [63, 5, 0, 0]
    let linked := block 1 1 0x80 [63, 5, 0, 0]
    { inDevice .running with transfers := [.blockRead 0x40 false] }.transfers = .blockRead 0x40 false :: [] ∧
    { Loader.reset with discarded := true }.discarded = true ∧ Loader.reset.active = none ∧
    ((s 15 false).transfers = .blockRead 0x40 true :: [] ∧ (s 15 false).device ≠ .resetting ∧
      (s 15 false).loader.active = some (load 15) ∧ (s 15 false).stopped id7 = false ∧
      (s 15 true).stopped id7 = true) ∧
    (∃ st, checkBlock 15 last Staging.reset = .ok st) ∧ le64 last 8 = 0 ∧
    (∃ st, checkBlock 15 linked Staging.reset = .ok st) ∧ le64 linked 8 ≠ 0 ∧
    (load 15).position < 16 ∧ 16 ≤ (load 16).position ∧
    checkBlock 1 (linked.set 4 1) Staging.reset = .error .checksum ∧
    (inDevice .resetting).device = .resetting := by
  exact ⟨by decide +kernel, rfl, rfl, by decide +kernel, block_passes (by decide +kernel), by decide +kernel,
    block_passes (by decide +kernel), by decide +kernel, by decide, by decide, block_fails (by decide +kernel), rfl⟩

/-- The commit of Section 7.10: a MERGE of two columns with no temperature source; eight columns and a ninth;
two sources; and a loader queue with a load and without. -/
theorem witness_CommitAppliesTheChain :
    let eight : List Column :=
      (List.range 8).map fun n => { target := n + 1, rows := Vector.replicate 32 0 }
    let source : Watch := { watch510 Flags.clear none with tempSource := true }
    (∃ d ∈ s710.loader.active, d.stage = .commitDue ∧ d.lane = 9 ∧ d.mode = .merge) ∧
    s710.device ≠ .resetting ∧ s710.loader.staging.columns ≠ [] ∧
    (s710.loader.staging.columns.foldl (fun t c => mergeColumn t c.column)
      s710.lanes[(9 : Fin 16)].table).length = 2 ∧
    8 < (s710.loader.staging.columns.foldl (fun t c => mergeColumn t c.column) eight).length ∧
    (∃ c ∈ s710.loader.staging.columns[0]?, (∀ y ∈ eight, y.target ≠ c.column.target) ∧
      eight.length + 0 = 8) ∧
    1 < ((Lane.reset.watches.set 0 source).set 1 source).toList.countP (·.tempSource) ∧
    (∃ w : StagedWatch, w.watch.tempSource = true ∧ w = { watch := source, block := 3 }) ∧
    (s710.lanes[(9 : Fin 16)]).watches.toList.countP (·.tempSource) ≤ 1 ∧ s710.loader.queue = [] := by
  refine ⟨by decide +kernel, by decide +kernel, by decide +kernel, by decide +kernel, by decide +kernel,
    by decide +kernel, by decide +kernel, ⟨_, rfl, rfl⟩, by decide +kernel, by decide +kernel⟩

theorem witness_ReportsAreWritten :
    let s (started stop : Bool) : State := { inDevice .running with
      transfers := [.reportWrite id7 0x40 [] started],
      table := [{ oct id7 0 (.laneReport 0x40) .active with stopped := stop }] }
    (s false false).transfers = .reportWrite id7 0x40 [] false :: [] ∧
      (s true false).transfers = .reportWrite id7 0x40 [] true :: [] ∧
      (s true false).stopped id7 = false ∧ (s true true).stopped id7 = true ∧
      (s true false).device ≠ .resetting ∧ (inDevice .resetting).device = .resetting := by decide +kernel

/-! ### Witnesses: ports and lanes -/

/-- A retry in three states, and each choice of an ACTIVE lane with nothing before it due. -/
theorem witness_NextTransactionInOrder :
    let watched : Lane := { active with
      watches := Lane.reset.watches.set 7 (watch510 Flags.clear none), round := some (.polling (some 6)) }
    { active with retryDue := some Tx.ack }.retryDue = some .ack ∧ active.retryDue = none ∧
      { active with image := img [(9, pend 0)] [], verifyDue := true }.choice = some (.verify 9) ∧
      { active with ackDue := true, checkDue := true }.choice = some .ack ∧
      { active with checkDue := true }.choice = some .check ∧
      watched.choice = some (.poll 7 33) ∧ { watched with state := .quiesced }.choice = none ∧
      active.choice = none := by decide +kernel

/-- A port that is not enabled or BUSY; no lane that offers; and a lane at the last select looked at, with
another of the port that offers nothing. -/
theorem witness_PortGrantsInTurn :
    let L : Lane := { active with checkDue := true, binding := some { port := 0, select := 3 } }
    let s := (up 0 L).setLane 1 active
    (State.reset.ports[(0 : Fin 4)].enabled = false ∧
      (sending 0 0 .check (up 0 active)).ports[(0 : Fin 4)].frame ≠ none) ∧
    (s.ports[(0 : Fin 4)].enabled = true ∧ s.ports[(0 : Fin 4)].frame = none ∧
      (∀ l m : Fin 16, s.lanes[l].attached = true → s.lanes[m].attached = true →
        s.lanes[l].binding = s.lanes[m].binding → l = m)) ∧
    (∀ l : Fin 16, (up 0 active).lanes[l].state ≠ .detached →
      (up 0 active).lanes[l].binding.map (·.port) = some 0 → (up 0 active).lanes[l].choice = none) ∧
    (s.lanes[(0 : Fin 16)].state ≠ .detached ∧ L.binding = some { port := 0, select := 3 } ∧
      s.lanes[(0 : Fin 16)] = L ∧ L.choice = some .check ∧
      ∀ m : Fin 16, ∀ b ∈ s.lanes[m].binding, s.lanes[m].state ≠ .detached → b.port = 0 →
        (b.select - s.ports[(0 : Fin 4)].pointer - 1).val <
          ((3 : Fin 4) - s.ports[(0 : Fin 4)].pointer - 1).val → s.lanes[m].choice = none) := by
  decide +kernel

/-- Lane 0 with the frame of `tx` in flight on port 0. -/
theorem ending {s : State} {tx : Tx} {a : FrameAnswer} {o : FrameOutcome}
    (hd : s.device ≠ .resetting) (hw : s.ports[(0 : Fin 4)].window = 64)
    (h : settle 64 tx a = o) : Ending (sending 0 0 tx s) 0 0 tx a o := by
  refine ⟨hd, ?_, ?_⟩
  · simp [sending, State.setPort]
  · simp only [Fin.getElem_fin, Fin.val_zero] at hw
    simpa [sending, State.setPort, hw] using h

/-- Any answer to any transaction of lane 0, whatever the lane holds. -/
theorem ending_up (L : Lane) {tx : Tx} {a : FrameAnswer} {o : FrameOutcome} (h : settle 64 tx a = o) :
    Ending (sending 0 0 tx (up 0 L)) 0 0 tx a o :=
  ending (show (DeviceState.running : DeviceState) ≠ .resetting by decide) rfl h

/-- The outcomes: DONE, NAK, PARITY and NO_RESPONSE of a read and of a write. -/
theorem outcomes : settle 64 (.verify 9) (ack 0x3C) = .done 0x3C ∧ settle 64 .ack (ack 0) = .done 0 ∧
    settle 64 (.wb 9 0x3C) (ack 0) = .done 0 ∧ settle 64 (.wb 9 0x3C) nak = .failed .nak ∧
    settle 64 (.verify 9) par = .failed .parity ∧ settle 64 (.verify 9) silent = .failed .noResponse := by
  decide +kernel

/-- Lane 0 with address 9 PENDING after `n` attempts. -/
def writing (n : Nat) : Lane :=
  { active with image := img [(9, pend n), (14, ent (some 1) none none (some 1) none .dirty)] [14] }

/-- A write and a VERIFY of address 9 with one attempt left of two, and none; the intended value changed. -/
theorem witness_WriteFrameEnds :
    (writing 2).state = .active ∧ (writing 2).purpose = none ∧ 9 ∈ addresses ∧
    ((writing 2).image.get 9).state = .pending ∧
    (∀ b ∈ addresses, ((writing 2).image.get b).state = .pending → b = 9) ∧
    (writing 2).image.QueueExact ∧
    Ending (sending 0 0 (.wb 9 0x3C) (up 0 (writing 2))) 0 0 (.wb 9 0x3C) nak (.failed .nak) ∧
    Ending (sending 0 0 (.wb 9 0x3C) (up 0 (writing 2))) 0 0 (.wb 9 0x3C) (ack 0) (.done 0) ∧
    Ending (sending 0 0 (.verify 9) (up 0 (writing 1))) 0 0 (.verify 9) (ack 0x3C) (.done 0x3C) ∧
    Ending (sending 0 0 (.verify 9) (up 0 (writing 1))) 0 0 (.verify 9) par (.failed .parity) ∧
    (pend 1).attempts < (writing 1).options.retryLimit ∧ (writing 2).options.retryLimit ≤ (pend 2).attempts ∧
    (pend 1).inFlight = some 0x3C ∧ (pend 1).inFlight ≠ some 0x38 := by
  exact ⟨rfl, rfl, by decide +kernel, by decide +kernel, by decide +kernel, queue_exact (by decide +kernel),
    ending_up _ outcomes.2.2.2.1, ending_up _ outcomes.2.2.1, ending_up _ outcomes.1,
    ending_up _ outcomes.2.2.2.2.1, by decide, by decide, rfl, by decide⟩

/-- A CHECK and an ACK of a PROBING lane of either purpose and of an ACTIVE one; retries left and exhausted. -/
theorem witness_ProbeAndRestart :
    (∀ L : Lane, L.image = Image.reset → L.image.QueueExact ∧
      ∀ a ∈ addresses, (L.image.get a).state ≠ .pending) ∧
    (∀ L : Lane, Ending (sending 0 0 .check (up 0 L)) 0 0 .check (ack 0x80) (.done 0x80) ∧
      Ending (sending 0 0 .check (up 0 L)) 0 0 .check (ack 0x7F) (.done 0x7F) ∧
      Ending (sending 0 0 .check (up 0 L)) 0 0 .check nak (.failed .nak) ∧
      Ending (sending 0 0 .ack (up 0 L)) 0 0 .ack (ack 0) (.done 0) ∧
      Ending (sending 0 0 .ack (up 0 L)) 0 0 .ack silent (.failed .noResponse)) ∧
    (0x80#8).getLsbD 7 = true ∧ (0x7F#8).getLsbD 7 = false ∧
    ((probing .attach).state = .probing ∧ (probing .attach).purpose = some .attach ∧
      (probing .attach).image = Image.reset ∧ (probing .attach).retryDue = none) ∧
    ((probing .resume).state = .probing ∧ (probing .resume).purpose = some .resume) ∧
    ({ active with round := some .atCheck }.round = some .atCheck ∧ active.purpose = none) ∧
    (1 < Options.default.retryLimit ∧ Options.default.retryLimit ≤ 2) := by
  refine ⟨fun L h => ?_, fun L => ⟨ending_up L ?_, ending_up L ?_, ending_up L ?_, ending_up L ?_, ending_up L ?_⟩, ?_⟩
  · rw [h]; exact ⟨queue_exact (by decide +kernel), by decide +kernel⟩
  all_goals decide +kernel

/-- A POLL of watch 7 in a round, stale and not; DONE, NAK and PARITY; retries left and exhausted. -/
theorem witness_PollFrameEnds :
    let L : Lane := { active with round := some (.polling (some 6)),
                                  watches := Lane.reset.watches.set 7 (watch510 Flags.clear none) }
    L.state = .active ∧ L.purpose = none ∧ L.retryDue = none ∧ L.image.QueueExact ∧
    (∀ a ∈ addresses, (L.image.get a).state ≠ .pending) ∧ (∃ q, L.round = some (.polling q)) ∧
    L.stalePoll = false ∧ { L with stalePoll := true }.stalePoll = true ∧
    (∀ M : Lane, Ending (sending 0 0 (.poll 7 33) (up 0 M)) 0 0 (.poll 7 33) (ack 71) (.done 71) ∧
      Ending (sending 0 0 (.poll 7 33) (up 0 M)) 0 0 (.poll 7 33) nak (.failed .nak) ∧
      Ending (sending 0 0 (.poll 7 33) (up 0 M)) 0 0 (.poll 7 33) par (.failed .parity)) ∧
    (∃ left : Vector Watch 8 → Option Round, ∀ ws, left ws =
      if ∃ j : Fin 8, (7 : Fin 8) < j ∧ ws[j].state = .active then some (.polling (some 7)) else none) ∧
    L.retryCount < L.options.retryLimit ∧ L.options.retryLimit ≤ { L with retryCount := 2 }.retryCount := by
  refine ⟨rfl, rfl, rfl, queue_exact (by decide +kernel), by decide +kernel, ⟨_, rfl⟩, rfl, rfl,
    fun M => ⟨ending_up M ?_, ending_up M ?_, ending_up M ?_⟩, ⟨_, fun _ => rfl⟩, by decide, by decide⟩
  all_goals decide +kernel

/-- A read and a write of address 63 as the head request, stopped and not, retries left and exhausted. -/
theorem witness_DirectFrameEnds :
    let d (v : Option Byte) (n : Nat) : DirectReq := { id := id7, addr := 63, value := v, retries := n }
    let L (st : LaneState) (v : Option Byte) : Lane :=
      { inState st with directs := [d v 2], image := img [(63, clean11)] [] }
    let stopped : State := { up 0 (L .active none) with
      table := [{ oct id7 0 (.readDirect 63) .active with stopped := true }] }
    (L .active none).state = .active ∧ (L .quiesced none).state = .quiesced ∧
    (L .faulted none).state = .faulted ∧ (L .active none).directs = d none 2 :: [] ∧
    (∀ st v, ∀ a ∈ addresses, ((L st v).image.get a).state ≠ .pending ∧
      (((L st v).image.get a).state = .unmanaged → ((L st v).image.get a).intended = none)) ∧
    (∀ M : Lane, Ending (sending 0 0 (.directRead 63) (up 0 M)) 0 0 (.directRead 63) (ack 5) (.done 5) ∧
      Ending (sending 0 0 (.directWrite 63 5) (up 0 M)) 0 0 (.directWrite 63 5) nak (.failed .nak) ∧
      Ending (sending 0 0 (.directWrite 63 5) (up 0 M)) 0 0 (.directWrite 63 5) silent (.failed .noResponse)) ∧
    stopped.stopped id7 = true ∧ (up 0 (L .active none)).stopped id7 = false ∧
    (d none 1).retries < Options.default.retryLimit ∧ Options.default.retryLimit ≤ (d none 2).retries := by
  refine ⟨rfl, rfl, rfl, rfl, fun st v => ?_, fun M => ⟨ending_up M ?_, ending_up M ?_, ending_up M ?_⟩, ?_⟩
  · show ∀ a ∈ addresses, ((img [(63, clean11)] []).get a).state ≠ .pending ∧
      (((img [(63, clean11)] []).get a).state = .unmanaged → ((img [(63, clean11)] []).get a).intended = none)
    decide +kernel
  all_goals decide +kernel

/-- DETACHING, QUIESCING with each kind of frame in flight, and RESETTING. -/
theorem witness_LastFrameEnds :
    let L : Lane := { writing 2 with state := .quiescing }
    let D : Lane := { L with directs := [{ id := id7, addr := 0, value := none, retries := 0 }] }
    (sending 0 0 (.wb 9 0x3C) (up 0 L)).ports[(0 : Fin 4)].frame = some { lane := 0, tx := .wb 9 0x3C } ∧
    (inDevice .resetting).device = .resetting ∧ (inState .detaching).state = .detaching ∧
    L.state = .quiescing ∧ 9 ∈ addresses ∧ (L.image.get 9).state = .pending ∧ L.image.QueueExact ∧
    (∀ M : Lane, Ending (sending 0 0 (.wb 9 0x3C) (up 0 M)) 0 0 (.wb 9 0x3C) nak (.failed .nak) ∧
      Ending (sending 0 0 (.verify 9) (up 0 M)) 0 0 (.verify 9) par (.failed .parity) ∧
      Ending (sending 0 0 .check (up 0 M)) 0 0 .check (ack 0) (.done 0) ∧
      Ending (sending 0 0 .ack (up 0 M)) 0 0 .ack (ack 0) (.done 0) ∧
      Ending (sending 0 0 (.poll 7 33) (up 0 M)) 0 0 (.poll 7 33) (ack 1) (.done 1) ∧
      Ending (sending 0 0 (.directRead 0) (up 0 M)) 0 0 (.directRead 0) (ack 1) (.done 1)) ∧
    (Tx.directRead 0).isDirect = true ∧ D.directs ≠ [] ∧
    (pend 1).attempts < L.options.retryLimit ∧ L.options.retryLimit ≤ (pend 2).attempts := by
  refine ⟨by decide +kernel, rfl, rfl, rfl, by decide +kernel, by decide +kernel, queue_exact (by decide +kernel),
    fun M => ⟨ending_up M ?_, ending_up M ?_, ending_up M ?_, ending_up M ?_, ending_up M ?_, ending_up M ?_⟩, ?_⟩
  all_goals decide +kernel

/-- DETACHED, no poll period, QUIESCED, ACTIVE without a round, at its CHECK, with a POLL left; a waiter with a
limit and one without. -/
theorem witness_TicksAtALane :
    let w (n : Option Nat) : Waiter := { id := id7, remaining := n }
    (up 0 active).device ≠ .resetting ∧ Lane.reset.state = .detached ∧
    { Options.default with pollPeriod := 0 }.pollPeriod = 0 ∧
    (active.options.pollPeriod ≠ 0 ∧ active.state = .active) ∧
    (inState .quiesced).state ≠ .active ∧ (inDevice .resetting).device = .resetting ∧
    (∃ x ∈ [w (some 1)], x.id = id7 ∧ x.remaining ≠ none) ∧
    ∀ x ∈ [w none], x.id = id7 → x.remaining = none := by decide +kernel

/-- R93, R94: a round goes on at its CHECK, with its POLL in flight, and with watch 7 above its position 6; it is
over past watch 7, and none is in progress. -/
theorem witness_RoundGoesOn :
    let polling (q : Fin 8) : Lane := { active with
      watches := Lane.reset.watches.set 7 (watch510 Flags.clear none), round := some (.polling (some q)) }
    { active with round := some .atCheck }.RoundGoesOn none ∧ (polling 7).RoundGoesOn (some (.poll 7 33)) ∧
      (polling 6).RoundGoesOn none ∧ ¬ (polling 7).RoundGoesOn none ∧ ¬ active.RoundGoesOn none := by
  refine ⟨.inl rfl, .inr ⟨_, rfl, .inl ⟨7, 33, .inl rfl⟩⟩, .inr ⟨_, rfl, .inr ⟨7, by decide, by decide⟩⟩, ?_, ?_⟩
  · rw [Lane.roundGoesOn_polling rfl]; decide
  · simp [Lane.RoundGoesOn, active, Lane.reset]

end Sys2Proof.Tests
end

section
/-! The operating point: the row of a reading, the move of the index, and what a recall reads
(spec/06_operating_point_calibration.md). -/

namespace Sys2Proof.Machine

/-! ### The row of a reading -/

/-- R110 as one equation. -/
theorem rowOf_val (t : Int) : ((rowOf t).val : Int) = max 0 (min 31 ((t + 40) / 5)) := by
  have hf : (t + 40).fdiv 5 = (t + 40) / 5 := Int.fdiv_eq_ediv_of_nonneg _ (by decide)
  simp only [rowOf, hf]
  split
  · show (0 : Int) = _
    omega
  · split
    · show (((t + 40) / 5).toNat : Int) = _
      omega
    · show (31 : Int) = _
      omega

/-- An inner row is the five degrees of its own; the rows at the ends take the rest (R110). -/
theorem rowOf_eq_iff {i : Fin 32} (t : Int) (hlo : 1 ≤ i.val) (hhi : i.val ≤ 30) :
    rowOf t = i ↔ 5 * (i.val : Int) - 40 ≤ t ∧ t ≤ 5 * (i.val : Int) - 36 := by
  have hr := rowOf_val t
  rw [Fin.ext_iff]
  omega

/-! ### The move of the index -/

/-- A reading lies the hysteresis `h` past an edge of row `i`, in the direction of its own row (R111). -/
def PastEdge (h : Nat) (i : Fin 32) (t : Int) : Prop :=
  (i < rowOf t ∧ 5 * ((i.val : Int) + 1) - 40 + (h : Int) ≤ t) ∨
    (rowOf t < i ∧ t ≤ 5 * (i.val : Int) - 41 - (h : Int))

theorem PastEdge.row_ne {h : Nat} {i : Fin 32} {t : Int} (hp : PastEdge h i t) : i ≠ rowOf t := by
  obtain ⟨hlt, -⟩ | ⟨hlt, -⟩ := hp
  · exact hlt.ne
  · exact hlt.ne'

@[simp] theorem moveIndex_none (h : Nat) (t : Int) : moveIndex h none t = rowOf t := rfl

theorem moveIndex_of_pastEdge {h : Nat} {i : Fin 32} {t : Int} (hp : PastEdge h i t) :
    moveIndex h (some i) t = rowOf t := by
  have hne : rowOf t ≠ i := hp.row_ne.symm
  obtain ⟨hlt, ht⟩ | ⟨hlt, ht⟩ := hp
  · simp [moveIndex, hne, hlt, ht]
  · simp [moveIndex, hne, hlt.not_gt, ht]

theorem moveIndex_of_not_pastEdge {h : Nat} {i : Fin 32} {t : Int} (hp : ¬ PastEdge h i t) :
    moveIndex h (some i) t = i := by
  obtain ⟨hup, hdown⟩ := not_or.1 hp
  obtain hlt | heq | hgt := lt_trichotomy i (rowOf t)
  · have ht : ¬ 5 * ((i.val : Int) + 1) - 40 + (h : Int) ≤ t := fun ht => hup ⟨hlt, ht⟩
    simp [moveIndex, hlt, ht]
  · simp [moveIndex, ← heq]
  · have ht : ¬ t ≤ 5 * (i.val : Int) - 41 - (h : Int) := fun ht => hdown ⟨hgt, ht⟩
    simp [moveIndex, hgt.not_gt, ht]

/-! ### The hand-off of a reading -/

theorem Lane.setIndex_same {L : Lane} {new : Option (Fin 32)} (h : L.index = new) (l : Fin 16)
    (cause : IndexCause) (temperature : Option Byte) : L.setIndex l new cause temperature = L.out := if_pos h

theorem Lane.setIndex_of_ne {L : Lane} {new : Option (Fin 32)} (h : L.index ≠ new) (l : Fin 16)
    (cause : IndexCause) (temperature : Option Byte) :
    L.setIndex l new cause temperature =
      { lane := { L with index := new, image := L.image.recall L.options.layerOrder L.table new },
        events := if L.options.indexEvents then [.indexChange l L.index new cause temperature] else [],
        done := [], waiters := [] } := if_neg h

theorem Lane.handOff_manual {L : Lane} (h : L.options.indexMode = .manual) (l : Fin 16) (v : Byte) :
    L.handOff l v = L.out := by
  simp only [Lane.handOff, h]

theorem Lane.handOff_auto {L : Lane} (h : L.options.indexMode = .auto) (l : Fin 16) (v : Byte) :
    L.handOff l v =
      L.setIndex l (some (moveIndex L.options.hysteresis L.index v.toInt)) .reading (some v) := by
  simp only [Lane.handOff, h]

/-- A reading of `t` moves the lane's index: in AUTO, from no index at all or past an edge of its row
(R111, R113). -/
def Lane.ReadingMoves (L : Lane) (t : Int) : Prop :=
  L.options.indexMode = .auto ∧ ∀ i ∈ L.index, PastEdge L.options.hysteresis i t

/-- The move itself is never to the present index, so the recall and the event always come with it (R114, R115). -/
theorem Lane.handOff_of_moves {L : Lane} {v : Byte} (h : L.ReadingMoves v.toInt) (l : Fin 16) :
    L.handOff l v =
      { lane := { L with index := some (rowOf v.toInt),
                         image := L.image.recall L.options.layerOrder L.table (some (rowOf v.toInt)) },
        events := if L.options.indexEvents then
            [.indexChange l L.index (some (rowOf v.toInt)) .reading (some v)] else [],
        done := [], waiters := [] } := by
  obtain ⟨hauto, hpast⟩ := h
  have hnew : moveIndex L.options.hysteresis L.index v.toInt = rowOf v.toInt ∧
      L.index ≠ some (rowOf v.toInt) := by
    cases hi : L.index with
    | none => simp
    | some i => simp [moveIndex_of_pastEdge (hpast i hi), (hpast i hi).row_ne]
  rw [Lane.handOff_auto hauto, hnew.1, Lane.setIndex_of_ne hnew.2]

theorem Lane.handOff_of_not_moves {L : Lane} {v : Byte} (h : ¬ L.ReadingMoves v.toInt) (l : Fin 16) :
    L.handOff l v = L.out := by
  cases hm : L.options.indexMode with
  | manual => exact Lane.handOff_manual hm l v
  | auto =>
    obtain ⟨i, hi, hp⟩ : ∃ i, L.index = some i ∧ ¬ PastEdge L.options.hysteresis i v.toInt := by
      simpa [Lane.ReadingMoves, hm] using h
    rw [Lane.handOff_auto hm, hi, moveIndex_of_not_pastEdge hp, Lane.setIndex_same hi]

/-- A reading touches nothing of its lane but the index and the image. -/
theorem Lane.handOff_frame (l : Fin 16) (L : Lane) (v : Byte) :
    (L.handOff l v).lane =
      { L with index := (L.handOff l v).lane.index, image := (L.handOff l v).lane.image } := by
  by_cases h : L.ReadingMoves v.toInt
  · rw [Lane.handOff_of_moves h]
  · rw [Lane.handOff_of_not_moves h]; rfl

/-! ### Recall -/

theorem Image.get_recall (o : LayerOrder) (t : List Column) (index : Option (Fin 32)) (im : Image) {a : Nat}
    (h : a ∈ addresses) :
    (im.recall o t index).get a =
      (im.get a).setLayers o (im.get a).base (im.get a).hold (calAt t index a) := im.get_mapEntries _ h

@[simp] theorem calAt_none (t : List Column) (a : Nat) : calAt t none a = none := rfl

theorem calAt_of_no_column {t : List Column} {a : Nat} (h : ∀ c ∈ t, c.target ≠ a)
    (index : Option (Fin 32)) : calAt t index a = none := by
  cases index with
  | none => rfl
  | some i =>
    have hf : (t.find? fun c => c.target == a) = none := by simpa using h
    simp [calAt, hf]

/-- With one column a target, the column found for a target is the one in the table. -/
theorem find?_target {t : List Column} (hn : (t.map (·.target)).Nodup) {c : Column} (hc : c ∈ t) :
    (t.find? fun d => d.target == c.target) = some c := by
  cases hf : t.find? fun d => d.target == c.target with
  | none => simpa using List.find?_eq_none.1 hf c hc
  | some d =>
    have htarget : d.target = c.target := by simpa using List.find?_some hf
    rw [List.inj_on_of_nodup_map hn (List.mem_of_find?_eq_some hf) hc htarget]

theorem calAt_of_column {t : List Column} (hn : (t.map (·.target)).Nodup) {c : Column} (hc : c ∈ t)
    (i : Fin 32) : calAt t (some i) c.target = some c.rows[i] := by
  simp [calAt, find?_target hn hc]

/-! ### The obligations -/

/-- Settles O15: the row's equation with its clamp, and the two ways a reading's hand-off can go. -/
theorem rowOfReading : Obligations.RowOfReading := by
  unfold Obligations.RowOfReading
  refine ⟨fun T => ?_, fun l L v => ⟨L.handOff_frame l v, fun hm => ?_, fun hm hi => ?_⟩⟩
  · have hr := rowOf_val T
    refine ⟨by omega, by omega, by omega, by omega, by omega, fun i hlo hhi => rowOf_eq_iff T hlo hhi⟩
  · rw [Lane.handOff_manual hm]; rfl
  · have hmoves : L.ReadingMoves v.toInt := ⟨hm, by simp [hi]⟩
    rw [Lane.handOff_of_moves hmoves]

/-- Settles O16: the statement's condition is `Lane.ReadingMoves`, which decides between the two ways of the
hand-off, and a recall acts at each address by its column. -/
theorem readingMovesTheIndex : Obligations.ReadingMovesTheIndex := by
  unfold Obligations.ReadingMovesTheIndex
  rintro l L v j moves rfl hm
  have hmoves : moves ↔ L.ReadingMoves v.toInt := by
    rw [hm]
    cases hi : L.index <;> simp [Lane.ReadingMoves, PastEdge, hi]
  refine ⟨fun hn => ?_, fun hy => ?_, fun o im t index a => ⟨im.get_recall o t index, ?_, ?_, ?_⟩⟩
  · exact Lane.handOff_of_not_moves (hmoves.not.1 hn) l
  · rw [Lane.handOff_of_moves (hmoves.1 hy)]
    exact ⟨rfl, rfl, rfl, rfl⟩
  · rintro rfl; exact calAt_none t a
  · exact fun h => calAt_of_no_column h index
  · rintro i c rfl hn hc rfl
    exact calAt_of_column hn hc i

end Sys2Proof.Machine
end

section
/-! Command rings and completions: a NOP from its row to its completion record
(spec/08_command_rings_and_completions.md). -/

namespace Sys2Proof.Machine

/-! ### NOP passes the checks and the barrier -/

/-- A ring of either rights may issue NOP (R142). -/
@[simp] theorem permits_nop (rights : Rights) : permits rights .nop = true := by
  cases rights <;> rfl

/-- NOP names no lane, so no earlier entry holds it back (R144). -/
@[simp] theorem heldBack_nop (earlier : List OctEntry) (ring : Fin 4) (lane : Byte) :
    heldBack earlier ring lane .nop = false := rfl

/-- NOP's effect reads no lane. -/
@[simp] theorem runCmd_nop (id : CmdId) (lane : Byte) (s : State) :
    s.runCmd id lane .nop = s.runNop id := by
  unfold State.runCmd
  cases laneOfByte lane <;> rfl

/-- The row of a NOP is its taking, with lane byte 0. -/
theorem exec_nop (ring : Fin 4) (tag : Tag) (s : State) :
    exec (.nop ring tag) s =
      .next (s.takeRecord { id := { ring := ring, tag := tag }, lane := 0, cmd := .nop }) := rfl

/-- With a tag of its own a NOP activates whatever waits (R153). -/
theorem nop_activates {s : State} {id : CmdId} (hopen : s.intakeOpen id.ring = true)
    (hfresh : ∀ e ∈ s.table, e.id ≠ id) : Activates s { id := id, lane := 0, cmd := .nop } 0 :=
  ⟨hopen, permits_nop _, hfresh, rfl, heldBack_nop _ _ _⟩

/-- NOP counts its own entry (R153). -/
theorem runNop_opened (s : State) (r : Request) (h : ∀ e ∈ s.table, e.id ≠ r.id) :
    (s.opened r).runNop r.id = s.completed r .ok (some (resultWord (s.table.length + 1) 0 0 0)) := by
  unfold State.runNop okDone
  rw [finish_opened s r _ _ h, opened_table, List.length_append, List.length_singleton]

/-! ### The completion record of a command that finished at its entry -/

/-- Byte 5 of a completion record is its lane byte (Table 11-5). -/
theorem completionRecord_lane (id : CmdId) (status : Status) (detail : Option Detail) (lane : Option Byte)
    (head : Nat) (result : Option Word) (phase : Bool) :
    byteAt (completionRecord id status detail lane head result phase) 5 = lane.getD 0xFF#8 := rfl

/-- A name no other entry bears finds the entry that just joined the table. -/
theorem entry_completed (s : State) (r : Request) (status : Status) (result : Option Word)
    (h : ∀ e ∈ s.table, e.id ≠ r.id) :
    (s.completed r status result).entry r.id = some (r.entry (.finished status none result)) := by
  have hnone : s.table.find? (fun e => e.id = r.id) = none := by simpa using h
  simp [State.entry, State.completed, Request.entry, hnone]

theorem completionOf_completed (s : State) (r : Request) (status : Status) (result : Option Word)
    (h : ∀ e ∈ s.table, e.id ≠ r.id) :
    (s.completed r status result).completionOf (.entry r.id) =
      completionRecord r.id status none (if r.cmd.namesLane then some r.lane else none)
        s.rings[r.id.ring].head result s.cq.phase := by
  simp only [State.completionOf, entry_completed s r status result h]
  rfl

/-! ### The obligation -/

/-- Settles O23: a NOP activates at once, its effect completes it with the table's length, and the record of
a command that names no lane has 0xFF in the lane byte. -/
theorem nopCompletes : Obligations.NopCompletes := by
  unfold Obligations.NopCompletes
  rintro ring tag s r rfl hopen hfresh
  refine ⟨?_, ?_⟩
  · rw [exec_nop, takeRecord_activates (nop_activates hopen hfresh), if_neg (by simp), runCmd_nop,
      runNop_opened _ _ hfresh]
  · rw [completionOf_completed _ _ _ _ hfresh, completionRecord_lane]
    rfl

end Sys2Proof.Machine
end

section
/-! Chain blocks: the checks of a block in their order, and what a block that passes them stages
(spec/07_configuration_chains.md; spec/11_record_and_frame_layouts.md, Sections 11.1 and 11.7). -/

namespace Sys2Proof.Machine

/-! ### The header: checksum, kind, entry count and next block address -/

/-- A 16-bit field is little-endian (R173). -/
theorem le16_toNat (bs : List Byte) (n : Nat) :
    (le16 bs n).toNat = (byteAt bs n).toNat + 256 * (byteAt bs (n + 1)).toNat := by
  have hlow := (byteAt bs n).isLt
  rw [le16, BitVec.toNat_append, ← Nat.shiftLeft_add_eq_or_of_lt hlow, Nat.shiftLeft_eq]
  omega

/-- R174 over the bytes of the block. -/
theorem blockSum_eq (bs : List Byte) :
    blockSum bs = ((List.range 128).map fun k =>
      (byteAt bs (2 * k)).toNat + 256 * (byteAt bs (2 * k + 1)).toNat).sum % 65536 := by
  simp only [blockSum, le16_toNat]

/-- The code of a block kind (Table 11-9, byte 0). -/
def BlockKind.code : BlockKind → Nat
  | .base => 1
  | .cal => 2
  | .watch => 3

theorem BlockKind.code_bounds (k : BlockKind) : 1 ≤ k.code ∧ k.code ≤ 3 := by
  cases k <;> decide

theorem BlockKind.code_injective : Function.Injective BlockKind.code := by
  intro k l h
  cases k <;> cases l <;> simp [BlockKind.code] at h ⊢

theorem BlockKind.exists_code {n : Nat} (hlow : 1 ≤ n) (hhigh : n ≤ 3) : ∃ k : BlockKind, n = k.code := by
  obtain rfl | rfl | rfl : n = 1 ∨ n = 2 ∨ n = 3 := by omega
  · exact ⟨.base, rfl⟩
  · exact ⟨.cal, rfl⟩
  · exact ⟨.watch, rfl⟩

theorem maxEntries_eq (k : BlockKind) : maxEntries k = if k.code = 1 then 60 else if k.code = 2 then 4 else 8 := by
  cases k <;> rfl

theorem entrySize_eq (k : BlockKind) : entrySize k = if k.code = 1 then 4 else if k.code = 2 then 36 else 12 := by
  cases k <;> rfl

theorem blockKind_eq_some_iff {bs : List Byte} {k : BlockKind} :
    blockKind bs = some k ↔ (byteAt bs 0).toNat = k.code := by
  have hlit (c : Nat) (hc : c < 256) : (byteAt bs 0).toNat = c ↔ byteAt bs 0 = BitVec.ofNat 8 c := by
    rw [← BitVec.toNat_inj, BitVec.toNat_ofNat, Nat.mod_eq_of_lt hc]
  rw [hlit _ (by have := k.code_bounds; omega)]
  unfold blockKind
  split_ifs with h1 h2 h3
  · rw [h1]; cases k <;> decide
  · rw [h2]; cases k <;> decide
  · rw [h3]; cases k <;> decide
  · cases k <;> simp [BlockKind.code, h1, h2, h3]

/-- The header of a block passes: its entry count is 1 to the most of its kind, and its next block address is
a multiple of 64 (R125, Table 7-1). -/
def HeaderOk (k : BlockKind) (bs : List Byte) : Prop :=
  blockKind bs = some k ∧ 1 ≤ blockCount bs ∧ blockCount bs ≤ maxEntries k ∧ (blockNext bs).toNat % 64 = 0

/-- The header's check over the block's own bytes (Table 7-1, Table 11-9). -/
theorem exists_headerOk_iff (bs : List Byte) :
    (∃ k, HeaderOk k bs) ↔
      1 ≤ (byteAt bs 0).toNat ∧ (byteAt bs 0).toNat ≤ 3 ∧ 1 ≤ (byteAt bs 1).toNat ∧
        (byteAt bs 1).toNat ≤
          (if (byteAt bs 0).toNat = 1 then 60 else if (byteAt bs 0).toNat = 2 then 4 else 8) ∧
        (le64 bs 8).toNat % 64 = 0 := by
  constructor
  · rintro ⟨k, hk, hpos, hmost, hnext⟩
    rw [blockKind_eq_some_iff] at hk
    rw [hk, ← maxEntries_eq]
    exact ⟨k.code_bounds.1, k.code_bounds.2, hpos, hmost, hnext⟩
  · rintro ⟨hlow, hhigh, hpos, hmost, hnext⟩
    obtain ⟨k, hk⟩ := BlockKind.exists_code hlow hhigh
    rw [hk, ← maxEntries_eq] at hmost
    exact ⟨k, blockKind_eq_some_iff.2 hk, hpos, hmost, hnext⟩

/-! ### The order of the checks -/

theorem checkBlock_of_sum_ne {bs : List Byte} (h : blockSum bs ≠ 0) (position : Nat) (st : Staging) :
    checkBlock position bs st = .error .checksum := if_pos h

theorem checkBlock_of_header_fails {bs : List Byte} (hsum : blockSum bs = 0) (h : ∀ k, ¬ HeaderOk k bs)
    (position : Nat) (st : Staging) : checkBlock position bs st = .error .badBlock := by
  rw [checkBlock, if_neg (not_not.2 hsum)]
  cases hk : blockKind bs with
  | none => rfl
  | some k =>
    by_cases hcount : blockCount bs = 0 ∨ maxEntries k < blockCount bs
    · exact if_pos hcount
    · have hnext : aligned64 (blockNext bs) = false :=
        decide_eq_false fun hn => h k ⟨hk, by omega, by omega, hn⟩
      simp [hcount, hnext]

/-- With its checksum and header right, a block stands or falls by its entries and by the room for columns. -/
theorem checkBlock_of_headerOk {bs : List Byte} {k : BlockKind} (hsum : blockSum bs = 0) (h : HeaderOk k bs)
    (position : Nat) (st : Staging) :
    checkBlock position bs st =
      if entriesOk k st bs = false then .error .badEntry
      else if Config.tableColumns < (stageBlock k position bs st).columns.length then .error .tableFull
      else .ok (stageBlock k position bs st) := by
  obtain ⟨hk, hpos, hmost, hnext⟩ := h
  have hcount : ¬ (blockCount bs = 0 ∨ maxEntries k < blockCount bs) := by omega
  have haligned : aligned64 (blockNext bs) = true := decide_eq_true hnext
  simp [checkBlock, hsum, hk, hcount, haligned]

theorem checkBlock_eq_checksum_iff (position : Nat) (bs : List Byte) (st : Staging) :
    checkBlock position bs st = .error .checksum ↔ blockSum bs ≠ 0 := by
  refine ⟨fun h hsum => ?_, fun h => checkBlock_of_sum_ne h position st⟩
  by_cases hheader : ∃ k, HeaderOk k bs
  · obtain ⟨k, hk⟩ := hheader
    rw [checkBlock_of_headerOk hsum hk] at h
    split_ifs at h <;> simp at h
  · rw [checkBlock_of_header_fails hsum (not_exists.1 hheader)] at h
    simp at h

theorem checkBlock_of_entries_fail {bs : List Byte} {k : BlockKind} {st : Staging} (hsum : blockSum bs = 0)
    (h : HeaderOk k bs) (hentries : ¬ entriesOk k st bs = true) (position : Nat) :
    checkBlock position bs st = .error .badEntry := by
  rw [checkBlock_of_headerOk hsum h, if_pos (Bool.eq_false_iff.2 hentries)]

theorem checkBlock_of_tableFull {bs : List Byte} {k : BlockKind} {st : Staging} {position : Nat}
    (hsum : blockSum bs = 0) (h : HeaderOk k bs) (hentries : entriesOk k st bs = true)
    (hfull : 8 < (stageBlock k position bs st).columns.length) :
    checkBlock position bs st = .error .tableFull := by
  rw [checkBlock_of_headerOk hsum h, if_neg (by simp [hentries])]
  exact if_pos hfull

theorem checkBlock_of_passes {bs : List Byte} {k : BlockKind} {st : Staging} {position : Nat}
    (hsum : blockSum bs = 0) (h : HeaderOk k bs) (hentries : entriesOk k st bs = true)
    (hroom : (stageBlock k position bs st).columns.length ≤ 8) :
    checkBlock position bs st = .ok (stageBlock k position bs st) := by
  rw [checkBlock_of_headerOk hsum h, if_neg (by simp [hentries])]
  exact if_neg (Nat.not_lt.2 hroom)

/-! ### The checks of the entries -/

/-- The first byte of entry `i` of a block (Table 11-9). -/
def entryStart (k : BlockKind) (i : Nat) : Nat := 16 + entrySize k * i

/-- The byte that names the address, target or watch of entry `i` (Table 11-9). -/
def entryTarget (k : BlockKind) (bs : List Byte) (i : Nat) : Nat := (byteAt bs (entryStart k i)).toNat

theorem entryStarts_eq (k : BlockKind) (bs : List Byte) :
    entryStarts k bs = (List.range (blockCount bs)).map (entryStart k) := rfl

theorem columnTargets_eq (bs : List Byte) :
    columnTargets bs = (List.range (blockCount bs)).map (entryTarget .cal bs) := by
  rw [columnTargets, entryStarts_eq, List.map_map]
  rfl

theorem byte_le_one_iff {b : Byte} : b.toNat ≤ 1 ↔ b = 0#8 ∨ b = 1#8 := by
  simp only [← BitVec.toNat_inj, BitVec.toNat_ofNat]
  omega

/-- What a BASE entry that passes names and does (Table 11-9). -/
theorem baseEntryAt_eq_some {bs : List Byte} {n : Nat} {x : Fin 63} (hx : (byteAt bs n).toNat = x.val + 1)
    (hact : (byteAt bs (n + 2)).toNat ≤ 1) :
    baseEntryAt bs n =
      some (x, if byteAt bs (n + 2) = 0#8 then .set (byteAt bs (n + 1)) else .clear) := by
  obtain h0 | h1 := byte_le_one_iff.1 hact
  · simp [baseEntryAt, hx, h0, Nat.succ_le_of_lt x.isLt]
  · simp [baseEntryAt, hx, h1, Nat.succ_le_of_lt x.isLt]

/-- The address that a BASE entry names. -/
theorem target_of_baseEntryAt {bs : List Byte} {n : Nat} {x : Fin 63} {act : BaseAction}
    (h : baseEntryAt bs n = some (x, act)) : (byteAt bs n).toNat = x.val + 1 := by
  simp only [baseEntryAt] at h
  split_ifs at h with hrange
  all_goals
    obtain ⟨rfl, -⟩ := Prod.mk.inj (Option.some.inj h)
    exact (Nat.sub_add_cancel hrange.1).symm

theorem baseEntryAt_isSome_iff (bs : List Byte) (n : Nat) :
    (baseEntryAt bs n).isSome = true ↔
      1 ≤ (byteAt bs n).toNat ∧ (byteAt bs n).toNat ≤ 63 ∧ (byteAt bs (n + 2)).toNat ≤ 1 := by
  rw [byte_le_one_iff]
  simp only [baseEntryAt]
  split_ifs with hrange hset hclear
  · simp [hrange, hset]
  · simp [hrange, hclear]
  · simp [hset, hclear]
  · simp only [Option.isSome_none, Bool.false_eq_true, false_iff]
    exact fun h => hrange ⟨h.1, h.2.1⟩

/-- Columns pass when their targets lie in range, are not staged, and are all different (R126). -/
theorem columnsOk_iff (staged ts : List Nat) :
    columnsOk staged ts = true ↔ (∀ t ∈ ts, 1 ≤ t ∧ t ≤ 63 ∧ t ∉ staged) ∧ ts.Nodup := by
  induction ts generalizing staged with
  | nil => simp [columnsOk]
  | cons t ts ih =>
    simp only [columnsOk, Bool.and_eq_true, decide_eq_true_eq, Bool.not_eq_true',
      List.contains_eq_mem, decide_eq_false_iff_not, ih, List.mem_cons, List.nodup_cons, forall_eq_or_imp]
    constructor
    · rintro ⟨⟨⟨hlow, hhigh⟩, hfree⟩, hrest, hnodup⟩
      exact ⟨⟨⟨hlow, hhigh, hfree⟩, fun u hu => ⟨(hrest u hu).1, (hrest u hu).2.1,
        fun hs => (hrest u hu).2.2 (.inr hs)⟩⟩, fun ht => (hrest t ht).2.2 (.inl rfl), hnodup⟩
    · rintro ⟨⟨⟨hlow, hhigh, hfree⟩, hrest⟩, hnew, hnodup⟩
      refine ⟨⟨⟨hlow, hhigh⟩, hfree⟩, fun u hu => ⟨(hrest u hu).1, (hrest u hu).2.1, ?_⟩, hnodup⟩
      rintro (rfl | hs)
      · exact hnew hu
      · exact (hrest u hu).2.2 hs

theorem nodup_map_range_iff {α : Type} (f : Nat → α) (n : Nat) :
    ((List.range n).map f).Nodup ↔ ∀ i < n, ∀ j < i, f j ≠ f i := by
  simp only [List.Nodup, List.pairwise_iff_getElem, List.length_map, List.length_range, List.getElem_map,
    List.getElem_range]
  exact ⟨fun h i hi j hj => h j i (hj.trans hi) hi hj, fun h j i _ hi hj => h i hi j hj⟩

theorem entriesOk_base_iff (st : Staging) (bs : List Byte) :
    entriesOk .base st bs = true ↔ ∀ i < blockCount bs,
      1 ≤ entryTarget .base bs i ∧ entryTarget .base bs i ≤ 63 ∧
        (byteAt bs (entryStart .base i + 2)).toNat ≤ 1 := by
  simp only [entriesOk, entryStarts_eq, List.all_map, List.all_eq_true, List.mem_range, Function.comp_apply,
    baseEntryAt_isSome_iff, entryTarget]

theorem entriesOk_cal_iff (st : Staging) (bs : List Byte) :
    entriesOk .cal st bs = true ↔ ∀ i < blockCount bs,
      1 ≤ entryTarget .cal bs i ∧ entryTarget .cal bs i ≤ 63 ∧
        (∀ c ∈ st.columns, c.column.target ≠ entryTarget .cal bs i) ∧
        ∀ j < i, entryTarget .cal bs j ≠ entryTarget .cal bs i := by
  simp only [entriesOk]
  rw [columnTargets_eq, columnsOk_iff, nodup_map_range_iff, List.forall_mem_map]
  simp only [List.mem_range, List.mem_map, not_exists, not_and]
  constructor
  · rintro ⟨hentry, hdistinct⟩ i hi
    obtain ⟨hlow, hhigh, hfree⟩ := hentry i hi
    exact ⟨hlow, hhigh, hfree, hdistinct i hi⟩
  · intro h
    refine ⟨fun i hi => ?_, fun i hi => ?_⟩
    all_goals obtain ⟨hlow, hhigh, hfree, hdistinct⟩ := h i hi
    · exact ⟨hlow, hhigh, hfree⟩
    · exact hdistinct

theorem entriesOk_watch_iff (st : Staging) (bs : List Byte) :
    entriesOk .watch st bs = true ↔ ∀ i < blockCount bs,
      (readWatch (watchRecordAt bs (entryStart .watch i))).isSome = true := by
  simp only [entriesOk, entryStarts_eq, List.all_map, List.all_eq_true, List.mem_range, Function.comp_apply]

/-- The checks of the entries of a block, by the code of its kind (R126). -/
theorem entriesOk_iff (k : BlockKind) (st : Staging) (bs : List Byte) :
    entriesOk k st bs = true ↔ ∀ i < blockCount bs,
      (k.code = 1 → 1 ≤ entryTarget k bs i ∧ entryTarget k bs i ≤ 63 ∧
        (byteAt bs (entryStart k i + 2)).toNat ≤ 1) ∧
      (k.code = 2 → 1 ≤ entryTarget k bs i ∧ entryTarget k bs i ≤ 63 ∧
        (∀ c ∈ st.columns, c.column.target ≠ entryTarget k bs i) ∧
        ∀ j < i, entryTarget k bs j ≠ entryTarget k bs i) ∧
      (k.code = 3 → (readWatch (watchRecordAt bs (entryStart k i))).isSome = true) := by
  cases k with
  | base => simp [BlockKind.code, entriesOk_base_iff]
  | cal => simp [BlockKind.code, entriesOk_cal_iff]
  | watch => simp [BlockKind.code, entriesOk_watch_iff]

/-- The watch that a record names. -/
theorem index_of_readWatch {r : WatchRecord} {x : Fin 8} {w : Watch} (h : readWatch r = some (x, w)) :
    r.index.toNat = x.val := by
  unfold readWatch at h
  split_ifs at h
  all_goals
    obtain ⟨rfl, -⟩ := Prod.mk.inj (Option.some.inj h)
    rfl

/-! ### Staging: the later entry decides (R127) -/

/-- An entry, where it passes, takes the slot it names. -/
def placeEntry {α : Type} {m : Nat} (v : Vector (Option α) m) : Option (Fin m × α) → Vector (Option α) m
  | some (i, a) => v.set i (some a)
  | none => v

/-- The first `n` entries placed in their order. -/
def placeEntries {α : Type} {m : Nat} (entry : Nat → Option (Fin m × α)) (v : Vector (Option α) m) (n : Nat) :
    Vector (Option α) m :=
  (List.range n).foldl (fun u i => placeEntry u (entry i)) v

section
variable {α : Type} {m : Nat} {entry : Nat → Option (Fin m × α)} {x : Fin m}

theorem placeEntries_succ (entry : Nat → Option (Fin m × α)) (v : Vector (Option α) m) (n : Nat) :
    placeEntries entry v (n + 1) = placeEntry (placeEntries entry v n) (entry n) := by
  simp [placeEntries, List.range_succ]

theorem placeEntry_same (v : Vector (Option α) m) (a : α) : (placeEntry v (some (x, a)))[x] = some a := by
  simp [placeEntry]

theorem placeEntry_other (v : Vector (Option α) m) {o : Option (Fin m × α)} (h : ∀ a, o ≠ some (x, a)) :
    (placeEntry v o)[x] = v[x] := by
  obtain _ | ⟨i, a⟩ := o
  · rfl
  · have hne : i.val ≠ x.val := fun hi => h a (by rw [Fin.ext hi])
    simp [placeEntry, Vector.getElem_set_ne, hne]

/-- A slot that no entry names is as it was. -/
theorem placeEntries_unnamed (v : Vector (Option α) m) {n : Nat} (h : ∀ i < n, ∀ a, entry i ≠ some (x, a)) :
    (placeEntries entry v n)[x] = v[x] := by
  induction n with
  | zero => rfl
  | succ n ih =>
    rw [placeEntries_succ, placeEntry_other _ (h n n.lt_succ_self), ih fun i hi => h i (hi.trans n.lt_succ_self)]

/-- A slot holds what the last entry that names it says. -/
theorem placeEntries_last (v : Vector (Option α) m) {n i : Nat} {a : α} (hi : i < n)
    (hentry : entry i = some (x, a)) (hlater : ∀ j < n, i < j → ∀ b, entry j ≠ some (x, b)) :
    (placeEntries entry v n)[x] = some a := by
  induction n with
  | zero => exact absurd hi i.not_lt_zero
  | succ n ih =>
    rw [placeEntries_succ]
    obtain hlt | rfl := Nat.lt_succ_iff_lt_or_eq.1 hi
    · rw [placeEntry_other _ (hlater n n.lt_succ_self hlt)]
      exact ih hlt fun j hj => hlater j (hj.trans n.lt_succ_self)
    · rw [hentry, placeEntry_same]

end

/-- The staged watch of a record at byte `n`, with the slot it takes. -/
def watchEntryAt (position : Nat) (bs : List Byte) (n : Nat) : Option (Fin 8 × StagedWatch) :=
  (readWatch (watchRecordAt bs n)).map fun p => (p.1, { watch := p.2, block := position })

theorem watchEntryAt_eq_some {position : Nat} {bs : List Byte} {n : Nat} {x : Fin 8} {w : Watch}
    (h : readWatch (watchRecordAt bs n) = some (x, w)) :
    watchEntryAt position bs n = some (x, { watch := w, block := position }) := by
  rw [watchEntryAt, h, Option.map_some]

/-- The watch that a WATCH entry names. -/
theorem target_of_watchEntryAt {position : Nat} {bs : List Byte} {n : Nat} {x : Fin 8} {a : StagedWatch}
    (h : watchEntryAt position bs n = some (x, a)) : (byteAt bs n).toNat = x.val := by
  obtain ⟨⟨y, w⟩, hread, heq⟩ := Option.map_eq_some_iff.1 h
  obtain ⟨rfl, -⟩ := Prod.mk.inj heq
  exact index_of_readWatch hread

theorem stageBase_eq (bs : List Byte) (st : Staging) (n : Nat) :
    stageBase bs st n = { st with base := placeEntry st.base (baseEntryAt bs n) } := by
  unfold stageBase
  cases baseEntryAt bs n <;> rfl

theorem stageWatch_eq (position : Nat) (bs : List Byte) (st : Staging) (n : Nat) :
    stageWatch position bs st n =
      { st with watches := placeEntry st.watches (watchEntryAt position bs n) } := by
  unfold stageWatch watchEntryAt
  cases readWatch (watchRecordAt bs n) <;> rfl

theorem stageBlock_base (position : Nat) (bs : List Byte) (st : Staging) :
    stageBlock .base position bs st =
      { st with base := placeEntries (fun i => baseEntryAt bs (entryStart .base i)) st.base (blockCount bs) } := by
  simp only [stageBlock, entryStarts_eq, List.foldl_map, placeEntries]
  induction List.range (blockCount bs) generalizing st with
  | nil => rfl
  | cons i is ih => rw [List.foldl_cons, ih, stageBase_eq]; rfl

theorem stageBlock_watch (position : Nat) (bs : List Byte) (st : Staging) :
    stageBlock .watch position bs st =
      { st with watches :=
          placeEntries (fun i => watchEntryAt position bs (entryStart .watch i)) st.watches (blockCount bs) } := by
  simp only [stageBlock, entryStarts_eq, List.foldl_map, placeEntries]
  induction List.range (blockCount bs) generalizing st with
  | nil => rfl
  | cons i is ih => rw [List.foldl_cons, ih, stageWatch_eq]; rfl

/-- The columns that a CAL block adds, in body order. -/
def addedColumns (position : Nat) (bs : List Byte) : List StagedColumn :=
  (List.range (blockCount bs)).map fun i =>
    { column := columnAt bs (entryStart .cal i), block := position }

theorem stageBlock_cal (position : Nat) (bs : List Byte) (st : Staging) :
    stageBlock .cal position bs st = { st with columns := st.columns ++ addedColumns position bs } := by
  simp only [stageBlock, stageColumns, entryStarts_eq, List.map_map, addedColumns]
  rfl

@[simp] theorem length_addedColumns (position : Nat) (bs : List Byte) :
    (addedColumns position bs).length = blockCount bs := by
  simp [addedColumns]

theorem getElem?_addedColumns {position : Nat} {bs : List Byte} {i : Nat} {c : StagedColumn}
    (h : (addedColumns position bs)[i]? = some c) :
    c.block = position ∧ c.column.target = entryTarget .cal bs i ∧
      ∀ k : Fin 32, c.column.rows[k] = byteAt bs (entryStart .cal i + 4 + k.val) := by
  obtain ⟨hi, rfl⟩ := List.getElem?_eq_some_iff.1 h
  simp [addedColumns, columnAt, entryTarget]

/-! ### What a block that passes stages -/

/-- A BASE block that passes: each address has the action of the last entry that names it. -/
theorem checkBlock_base {position : Nat} {bs : List Byte} {st : Staging} (hsum : blockSum bs = 0)
    (h : HeaderOk .base bs) (hentries : entriesOk .base st bs = true) (hroom : st.columns.length ≤ 8) :
    ∃ base : Vector (Option BaseAction) 63,
      checkBlock position bs st = .ok { st with base := base } ∧
      ∀ x : Fin 63,
        (∀ i < blockCount bs, entryTarget .base bs i = x.val + 1 →
          (∀ j < blockCount bs, i < j → entryTarget .base bs j ≠ x.val + 1) →
          base[x] = some (if byteAt bs (entryStart .base i + 2) = 0#8
            then .set (byteAt bs (entryStart .base i + 1)) else .clear)) ∧
        ((∀ i < blockCount bs, entryTarget .base bs i ≠ x.val + 1) → base[x] = st.base[x]) := by
  have hstage := stageBlock_base position bs st
  have hpass := checkBlock_of_passes hsum h hentries (position := position) (by rw [hstage]; exact hroom)
  rw [hstage] at hpass
  refine ⟨_, hpass, fun x => ⟨fun i hi hx hlater => ?_, fun hnone => ?_⟩⟩
  · obtain ⟨-, -, hact⟩ := (entriesOk_base_iff st bs).1 hentries i hi
    exact placeEntries_last _ hi (baseEntryAt_eq_some hx hact)
      fun j hj hij _ hj' => hlater j hj hij (target_of_baseEntryAt hj')
  · exact placeEntries_unnamed _ fun i hi _ hi' => hnone i hi (target_of_baseEntryAt hi')

/-- A WATCH block that passes: each watch is that of the last record that names it. -/
theorem checkBlock_watch {position : Nat} {bs : List Byte} {st : Staging} (hsum : blockSum bs = 0)
    (h : HeaderOk .watch bs) (hentries : entriesOk .watch st bs = true) (hroom : st.columns.length ≤ 8) :
    ∃ watches : Vector (Option StagedWatch) 8,
      checkBlock position bs st = .ok { st with watches := watches } ∧
      ∀ x : Fin 8,
        (∀ i < blockCount bs, ∀ w, readWatch (watchRecordAt bs (entryStart .watch i)) = some (x, w) →
          (∀ j < blockCount bs, i < j → entryTarget .watch bs j ≠ x.val) →
          watches[x] = some { watch := w, block := position }) ∧
        ((∀ i < blockCount bs, entryTarget .watch bs i ≠ x.val) → watches[x] = st.watches[x]) := by
  have hstage := stageBlock_watch position bs st
  have hpass := checkBlock_of_passes hsum h hentries (position := position) (by rw [hstage]; exact hroom)
  rw [hstage] at hpass
  refine ⟨_, hpass, fun x => ⟨fun i hi w hw hlater => ?_, fun hnone => ?_⟩⟩
  · exact placeEntries_last _ hi (watchEntryAt_eq_some hw)
      fun j hj hij _ hj' => hlater j hj hij (target_of_watchEntryAt hj')
  · exact placeEntries_unnamed _ fun i hi _ hi' => hnone i hi (target_of_watchEntryAt hi')

/-- A CAL block whose columns pass: they join those staged, unless a ninth would (R127). -/
theorem checkBlock_cal {position : Nat} {bs : List Byte} {st : Staging} (hsum : blockSum bs = 0)
    (h : HeaderOk .cal bs) (hentries : entriesOk .cal st bs = true) :
    (8 < st.columns.length + blockCount bs → checkBlock position bs st = .error .tableFull) ∧
    (st.columns.length + blockCount bs ≤ 8 →
      checkBlock position bs st = .ok { st with columns := st.columns ++ addedColumns position bs }) := by
  have hstage := stageBlock_cal position bs st
  have hlength : (stageBlock .cal position bs st).columns.length = st.columns.length + blockCount bs := by
    simp [hstage]
  refine ⟨fun hfull => checkBlock_of_tableFull hsum h hentries (hlength ▸ hfull), fun hroom => ?_⟩
  rw [← hstage]
  exact checkBlock_of_passes hsum h hentries (hlength ▸ hroom)

/-! ### The obligation -/

/-- Settles O20: with the statement's fields read as the model's, each check answers by its own equation, and
the content staged is that of the block's kind. -/
theorem checksumComesFirst : Obligations.ChecksumComesFirst := by
  unfold Obligations.ChecksumComesFirst
  rintro position bs st sum kind count most size start target rec header entries hsum rfl rfl rfl rfl
    hstart htarget hrec hheader hentries
  replace hsum : sum = blockSum bs := hsum.trans (blockSum_eq bs).symm
  rw [← exists_headerOk_iff] at hheader
  have hlayout (k : BlockKind) (hk : HeaderOk k bs) :
      (byteAt bs 0).toNat = k.code ∧ start = entryStart k ∧ target = entryTarget k bs ∧
        rec = fun i => watchRecordAt bs (entryStart k i) := by
    have hcode := blockKind_eq_some_iff.1 hk.1
    obtain rfl : start = entryStart k :=
      funext fun i => by rw [hstart, hcode, ← entrySize_eq, entryStart]
    exact ⟨hcode, rfl, funext htarget, funext hrec⟩
  rw [hsum]
  refine ⟨checkBlock_eq_checksum_iff position bs st, fun hs hh => ?_, fun hs hh he => ?_,
    fun hs hh he hroom => ?_⟩
  · exact checkBlock_of_header_fails hs (not_exists.1 (hheader.not.1 hh)) position st
  · obtain ⟨k, hk⟩ := hheader.1 hh
    obtain ⟨hcode, rfl, rfl, rfl⟩ := hlayout k hk
    rw [hcode] at hentries
    exact checkBlock_of_entries_fail hs hk
      (fun hok => he (hentries.2 ((entriesOk_iff k st bs).1 hok))) position
  · obtain ⟨k, hk⟩ := hheader.1 hh
    obtain ⟨hcode, rfl, rfl, rfl⟩ := hlayout k hk
    rw [hcode] at hentries ⊢
    have hok : entriesOk k st bs = true := (entriesOk_iff k st bs).2 (hentries.1 he)
    refine ⟨fun h1 => ?_, fun h2 => ?_, fun h3 => ?_⟩
    · obtain rfl : k = .base := BlockKind.code_injective h1
      exact checkBlock_base hs hk hok hroom
    · obtain rfl : k = .cal := BlockKind.code_injective h2
      obtain ⟨hfull, hjoin⟩ := checkBlock_cal (position := position) hs hk hok
      exact ⟨hfull, fun hfit => ⟨addedColumns position bs, hjoin hfit, length_addedColumns position bs,
        fun i c hc => getElem?_addedColumns hc⟩⟩
    · obtain rfl : k = .watch := BlockKind.code_injective h3
      exact checkBlock_watch hs hk hok hroom

end Sys2Proof.Machine
end

section
/-! What a step is made of: the elementary changes of the part. A step's claim about every state is then a
claim about each elementary change. -/

namespace Sys2Proof.Machine

/-! ### Elementary changes -/

/-- A change at one lane that concerns no port and no load; `o` is the lane's frame in flight. -/
inductive Lane.Change (o : Option Tx) (L : Lane) : Lane → Prop
  | waiters (ws : List Waiter) (h : L.state = .detached → L.waiters = [] → ws = []) :
      Lane.Change o L { L with waiters := ws }
  | direct (id : CmdId) (addr : Nat) (value : Option Byte) (h : L.closed = false) :
      Lane.Change o L (L.addDirect id addr value)
  | quiesce (id : CmdId) (h : L.state = .active) : Lane.Change o L (L.quiesce id o).lane
  | resume (id : CmdId) (h : L.state = .quiesced ∨ L.state = .faulted) : Lane.Change o L (L.resume id)
  | options (b : OptionBlock) (x : Options) (h : L.closed = false) (hx : optionsOver L.options b = some x) :
      Lane.Change o L (L.setOptions x)
  | layer (a : Nat) (layer : Byte) (v : Option Byte) (h : L.closed = false) :
      Lane.Change o L
        { L with image := L.image.modify a (Entry.regSet L.options.layerOrder layer v) }
  | watch (r : WatchRecord) (i : Fin 8) (w : Watch) (h : L.closed = false) (hr : readWatch r = some (i, w))
      (hw : ¬ (w.tempSource = true ∧ otherSource L.watches i = true)) :
      Lane.Change o L (L.replaceWatch o i w)
  | flags (watchMask flagMask : Byte) (h : L.closed = false) :
      Lane.Change o L { L with watches := clearFlags L.watches watchMask flagMask }
  | index (l : Fin 16) (i : Option (Fin 32)) (cause : IndexCause) (t : Option Byte) (h : L.closed = false) :
      Lane.Change o L (L.setIndex l i cause t).lane
  | clearTable (h : L.closed = false) :
      Lane.Change o L
        { L with table := [], image := L.image.recall L.options.layerOrder [] L.index }
  | timer (n : Nat) (h : L.state ≠ .detached) : Lane.Change o L { L with pollTimer := n }
  | tick (h : L.state ≠ .detached) : Lane.Change o L (L.pollTick o)

/-- `u` is the part `s` with a record before the Command Unit: a row's at an open intake, or the one that the
fetch at the head of the Host Port's order has brought. -/
inductive Intake (s : State) : State → Prop
  | row (q : Fin 4) (h : s.intakeOpen q = true) : Intake s s
  | fetched (q : Fin 4) (addr : HostAddr) (ts : List Transfer) (h : s.transfers = .fetch q addr :: ts)
      (hd : s.device = .running) (hq : s.rings[q].state = .active) :
      Intake s ((s.ended ts).setRing q { s.rings[q] with head := s.rings[q].next })

/-- The elementary changes of the part. Each keeps every invariant, and each step is a chain of them. -/
inductive Change (s : State) : State → Prop
  -- registers and events
  | registers (t : State)
      (h : t = { s with errorCode := t.errorCode, badPost := t.badPost, badReturn := t.badReturn,
                        intState := t.intState, intEnable := t.intEnable }) : Change s t
  | setupBase (a : HostAddr) (h : aligned64 s.setupBase = true → aligned64 a = true) :
      Change s { s with setupBase := a }
  | message (before : Bool) (h : s.device ≠ .resetting) : Change s (s.messageOnRise before)
  | event (e : Event) : Change s (s.raise e)
  -- commands
  | finish (c : Completion) : Change s (s.finish c)
  | activate (id : CmdId) (h : ∃ e ∈ s.table, e.id = id ∧ e.stage = .waiting) : Change s (s.setActive id)
  | markStopped : Change s s.markStopped
  | enter (u : State) (e : OctEntry) (hu : Intake s u) (hid : ∀ x ∈ s.table, x.id ≠ e.id)
      (he : e.finished = false) : Change s (u.addEntry e)
  | enterFinished (u : State) (e : OctEntry) (hu : Intake s u) (hid : ∀ x ∈ s.table, x.id ≠ e.id)
      (he : e.finished = true) :
      Change s { u.addEntry e with finishList := u.finishList ++ [.entry e.id] }
  | refuseRecord (u : State) (hu : Intake s u) (id : CmdId) (lane : Option Byte) (st : Status) :
      Change s (u.refuseRecord id lane st)
  | popFinished : Change s s.popFinished
  -- transfers
  | startHead (p : Transfer → Bool) : Change s (s.startHead p)
  | withdrawReports : Change s (s.withdraw Transfer.isReport)
  | askFetch (q : Fin 4) (a : HostAddr) (hd : s.device = .running) (hf : s.fetchInFlight = false)
      (ht : s.tableFree = true) (hl : s.finishList = []) :
      Change s (State.ask { s with intakePointer := q } (.fetch q a))
  | askCompletion (a : HostAddr) (bs : List Byte) (hr : s.cq.occupied < s.cq.size)
      (hf : s.completionWriteInFlight = false) : Change s (s.ask (.completionWrite a bs))
  | askEvent (a : HostAddr) (bs : List Byte) (n : Nat) (hd : s.device.writes = true) (hp : s.eq.pending ≠ [])
      (hf : s.eventWriteInFlight = false) : Change s (s.ask (.eventWrite a bs n))
  | askReport (id : CmdId) (a : HostAddr) (bs : List Byte) : Change s (s.ask (.reportWrite id a bs false))
  | ended (t : Transfer) (ts : List Transfer) (h : s.transfers = t :: ts)
      (hb : t.isBlockRead = true → s.device = .resetting ∨ s.loader.active = none ∧ s.loader.discarded = false)
      (he : t.isEventWrite = true → s.device = .resetting ∨ s.device.writes = true) : Change s (s.ended ts)
  | completionWritten (a : HostAddr) (bs : List Byte) (ts : List Transfer)
      (h : s.transfers = .completionWrite a bs :: ts) : Change s { s.ended ts with cq := s.cq.written }
  | eventWritten (a : HostAddr) (bs : List Byte) (n : Nat) (ts : List Transfer)
      (h : s.transfers = .eventWrite a bs n :: ts) (hd : s.device ≠ .resetting) :
      Change s { s.ended ts with eq := { s.eq with ring := s.eq.ring.written, pending := s.eq.pending.tail,
                                                   lost := s.eq.lost - n } }
  | eventLost (a : HostAddr) (bs : List Byte) (n : Nat) (ts : List Transfer)
      (h : s.transfers = .eventWrite a bs n :: ts) (hd : s.device ≠ .resetting) :
      Change s (s.ended ts).eventLost
  -- the device
  | start (a : HostAddr) (hd : s.device = .halted) :
      Change s (State.ask { s with device := .starting } (.setupRead a false))
  | startFailed (hd : s.device = .starting) : Change s { s with device := .halted }
  | setupTaken (bs : List Byte) (hd : s.device = .starting) (h : setupPasses bs = true) :
      Change s { s with
        device := .running,
        rings := Vector.ofFn fun q => (setupRing bs q).subRing,
        intakePointer := 3,
        cq := (setupCq bs).outRing,
        eq := { s.eq with ring := (setupEq bs).outRing, mask := setupMask bs },
        ports := Vector.ofFn fun p =>
          if s.portBound p then s.ports[p] else (setupPort bs p).over s.ports[p] }
  | stopping (hd : s.device = .running) : Change s { s with device := .stopping }
  | halt (hd : s.device.writes = true) : Change s { s.dropPending.ringsOff with device := .halted }
  | reset : Change s s.controlReset
  | clear : Change s s.cleared
  -- rings
  | ring (q : Fin 4) (r : SubRing) (h : s.rings[q].Ok → r.Ok) : Change s (s.setRing q r)
  | returnCq (n : Nat) (r : OutRing) (h : s.cq.giveBack n = some r) : Change s { s with cq := r }
  | returnEq (n : Nat) (r : OutRing) (h : s.eq.ring.giveBack n = some r) :
      Change s { s with eq := { s.eq with ring := r } }
  -- lanes and ports
  | lane (l : Fin 16) (M : Lane) (h : Lane.Change (s.inFlight l) s.lanes[l] M) : Change s (s.setLane l M)
  | attach (l : Fin 16) (id : CmdId) (b : Binding) (block : OptionBlock) (x : Options)
      (hs : s.lanes[l].state = .detached) (hp : s.ports[b.port].enabled = true) (hb : s.laneAt b = none)
      (hx : optionsOver Options.default block = some x) : Change s (s.setLane l (s.lanes[l].attach id b x))
  | detach (l : Fin 16) (id : CmdId) (hs : s.lanes[l].closed = false)
      (hq : ∀ q ∈ s.loader.queue, q.lane ≠ l) (ha : ∀ a ∈ s.loader.active, a.lane ≠ l) :
      Change s (s.setLane l (s.lanes[l].detach id (s.inFlight l)))
  | stopLanes : Change s s.stopLanes
  | grant (p sel : Fin 4) (l : Fin 16) (c : Choice) (he : s.ports[p].enabled = true)
      (hf : s.ports[p].frame = none) (hl : s.laneAt { port := p, select := sel } = some l)
      (hc : s.lanes[l].choice = some c) : Change s (s.grant p sel l c)
  | frameEnd (p : Fin 4) (f : Frame) (stopped : Bool) (out : FrameOutcome) (hf : s.ports[p].frame = some f)
      (hd : s.device ≠ .resetting) :
      Change s ((s.setPort p { s.ports[p] with frame := none }).setLane f.lane
        (s.lanes[f.lane].frameEnd f.lane f.tx stopped out).lane)
  | frameDropped (p : Fin 4) (hd : s.device = .resetting) : Change s (s.setPort p Port.reset)
  -- the Chain Loader
  | queueLoad (q : Load) (hl : s.lanes[q.lane].closed = false)
      (hr : s.loader.queue.length < Config.loaderQueueSize)
      (hb : ¬ (s.loader.active = none ∧ s.loader.discarded = false ∧ s.loader.queue = [])) :
      Change s { s with loader := { s.loader with queue := s.loader.queue ++ [q] } }
  | startLoad (q : Load) (hl : s.lanes[q.lane].closed = false) (ha : s.loader.active = none)
      (hd : s.loader.discarded = false) (hq : s.loader.queue = []) :
      Change s (State.nextLoad { s with loader := { s.loader with queue := [q] } })
  | detachLoads (l : Fin 16) : Change s (s.detachLoads l)
  | stopLoads : Change s s.stopLoads
  | blockDropped (a : HostAddr) (ts : List Transfer) (h : s.transfers = .blockRead a true :: ts)
      (hd : s.device ≠ .resetting) (hx : s.loader.discarded = true) :
      Change s (State.nextLoad { s.ended ts with loader := { s.loader with discarded := false } })
  | loadEnded (a : HostAddr) (ts : List Transfer) (h : s.transfers = .blockRead a true :: ts)
      (hd : s.device ≠ .resetting) (hx : s.loader.discarded = false) : Change s (s.ended ts).nextLoad
  | chainWhole (a : HostAddr) (ts : List Transfer) (h : s.transfers = .blockRead a true :: ts)
      (hd : s.device ≠ .resetting) (load : ActiveLoad) (hx : s.loader.active = some load) (bs : List Byte)
      (st : Staging) (hst : checkBlock load.position bs s.loader.staging = .ok st) :
      Change s { s.ended ts with loader :=
        { s.loader with active := some { load with stage := .commitDue, blocksRead := load.blocksRead + 1 },
                        staging := st } }
  | askBlock (a next : HostAddr) (ts : List Transfer) (h : s.transfers = .blockRead a true :: ts)
      (hd : s.device ≠ .resetting) (load : ActiveLoad) (hx : s.loader.active = some load)
      (hp : load.position < Config.chainBlocks) (bs : List Byte)
      (st : Staging) (hst : checkBlock load.position bs s.loader.staging = .ok st) :
      Change s (State.ask
        { s.ended ts with loader :=
          { s.loader with active := some { load with stage := .read next, position := load.position + 1,
                                                     blocksRead := load.blocksRead + 1 },
                          staging := st } } (.blockRead next false))
  | commit (load : ActiveLoad) (hx : s.loader.active = some load)
      (hst : commitCheck load.mode s.lanes[load.lane] s.loader.staging = .ok ()) :
      Change s (s.setLane load.lane
        (s.lanes[load.lane].commit (s.inFlight load.lane) load.mode s.loader.staging))
  | commitEnded (load : ActiveLoad) (hx : s.loader.active = some load) (hc : load.stage = .commitDue) :
      Change s s.nextLoad

/-- A chain of elementary changes. -/
abbrev Changes : State → State → Prop := Relation.ReflTransGen Change

theorem Change.changes {s t : State} (h : Change s t) : Changes s t := .single h

/-- A predicate that each elementary change keeps is kept by a chain of them. -/
theorem Changes.keep {P : State → Prop} (h : ∀ {s t}, Change s t → P s → P t) {s t : State}
    (hc : Changes s t) (hs : P s) : P t := by
  induction hc with
  | refl => exact hs
  | tail _ hbc ih => exact h hbc ih

/-! ### Shared operations -/

theorem raiseAll_changes (s : State) (es : List Event) : Changes s (s.raiseAll es) := by
  induction es generalizing s with
  | nil => exact .refl
  | cons e es ih => exact .head (.event e) (ih _)

theorem finishAll_changes (s : State) (cs : List Completion) : Changes s (s.finishAll cs) := by
  induction cs generalizing s with
  | nil => exact .refl
  | cons c cs ih => exact .head (.finish c) (ih _)

theorem refuse_changes (s : State) (id : CmdId) (st : Status) : Changes s (s.refuse id st) :=
  (Change.finish _).changes

theorem setCauses_changes {s : State} (h : s.device ≠ .resetting) (c : Causes) : Changes s (s.setCauses c) :=
  .head (.registers { s with intState := s.intState.union c } rfl)
    (Change.message (s := { s with intState := s.intState.union c }) _ h).changes

/-- A happening at a lane: the lane's change, then its events and completions. -/
theorem applyOut_changes {s t : State} {l : Fin 16} {o : LaneOut} (h : Changes s (t.setLane l o.lane)) :
    Changes s (t.applyOut l o) :=
  (h.trans (raiseAll_changes _ _)).trans (finishAll_changes _ _)

/-- Completing the SYNC waiters of a lane in sync changes its waiters alone. -/
theorem settleSync_lane (o : LaneOut) :
    o.settleSync.lane = o.lane ∨ o.settleSync.lane = { o.lane with waiters := [] } := by
  unfold LaneOut.settleSync
  split
  · exact .inr rfl
  · exact .inl rfl

theorem setWaiters_change (s : State) (l : Fin 16) (L : Lane) :
    Change (s.setLane l L) (s.setLane l { L with waiters := [] }) := by
  have h := Change.lane (s := s.setLane l L) l { L with waiters := [] }
    (by rw [State.setLane_get_self]; exact .waiters [] fun _ _ => rfl)
  rwa [State.setLane_setLane] at h

theorem applySync_changes {s t : State} {l : Fin 16} {o : LaneOut} (h : Changes s (t.setLane l o.lane)) :
    Changes s (t.applySync l o) := by
  refine applyOut_changes ?_
  obtain he | he := settleSync_lane o <;> rw [he]
  · exact h
  · exact h.tail (setWaiters_change t l o.lane)

/-- A change at one lane, given as a happening. -/
theorem laneChange_changes {s : State} {l : Fin 16} {M : Lane}
    (h : Lane.Change (s.inFlight l) s.lanes[l] M) : Changes s (s.setLane l M) := (Change.lane l M h).changes

end Sys2Proof.Machine
end

section
/-! Every step is a chain of elementary changes. -/

namespace Sys2Proof.Machine

/-! ### Commands at their activation -/

theorem Lane.state_of_not_closed {L : Lane} (h : L.closed = false) :
    L.state ≠ .detached ∧ L.state ≠ .detaching := by
  simpa [Lane.closed] using h

theorem Lane.not_closed_of {L : Lane} (h1 : L.state ≠ .detached) (h2 : L.state ≠ .detaching) :
    L.closed = false := by
  simp [Lane.closed, h1, h2]

theorem runAttach_changes (s : State) (id : CmdId) (l : Fin 16) (port select : Byte) (opts : OptionBlock) :
    Changes s (s.runAttach id l port select opts) := by
  unfold State.runAttach
  split
  · rename_i b x hb hx
    split_ifs with hs hl
    · exact refuse_changes s id _
    · exact refuse_changes s id _
    · have hp : s.ports[b.port].enabled = true := by
        unfold State.attachBinding at hb
        split_ifs at hb with h1 h2
        obtain rfl := Option.some.inj hb
        exact h2
      exact (Change.attach l id b opts x (not_not.1 hs) hp (by simpa using hl) hx).changes
  · exact refuse_changes s id _

/-- After a detach's effect on the Chain Loader no load of the lane is left in it (R135). -/
theorem detachLoads_none (s : State) (l : Fin 16) :
    (∀ q ∈ (s.detachLoads l).loader.queue, q.lane ≠ l) ∧ ∀ a ∈ (s.detachLoads l).loader.active, a.lane ≠ l := by
  have hq : ∀ q ∈ s.loader.queue.filter fun q => decide (q.lane ≠ l), q.lane ≠ l := by simp
  unfold State.detachLoads
  cases ha : s.loader.active with
  | none => exact ⟨hq, by simp [ha]⟩
  | some a =>
    simp only
    split_ifs with hl hr
    · exact ⟨hq, by simp⟩
    · unfold State.endLoad State.nextLoad
      cases hf : s.loader.queue.filter fun q => decide (q.lane ≠ l) with
      | nil => simp
      | cons q qs =>
        rw [hf] at hq
        simpa [State.ask] using ⟨fun x hx => hq x (by simp [hx]), hq q (by simp)⟩
    · exact ⟨hq, by simpa [ha] using hl⟩

@[simp] theorem nextLoad_lanes (s : State) : s.nextLoad.lanes = s.lanes := by
  unfold State.nextLoad; split <;> rfl
@[simp] theorem nextLoad_ports (s : State) : s.nextLoad.ports = s.ports := by
  unfold State.nextLoad; split <;> rfl
@[simp] theorem nextLoad_device (s : State) : s.nextLoad.device = s.device := by
  unfold State.nextLoad; split <;> rfl
@[simp] theorem nextLoad_table (s : State) : s.nextLoad.table = s.table := by
  unfold State.nextLoad; split <;> rfl
@[simp] theorem nextLoad_finishList (s : State) : s.nextLoad.finishList = s.finishList := by
  unfold State.nextLoad; split <;> rfl
@[simp] theorem nextLoad_rings (s : State) : s.nextLoad.rings = s.rings := by
  unfold State.nextLoad; split <;> rfl
@[simp] theorem nextLoad_cq (s : State) : s.nextLoad.cq = s.cq := by
  unfold State.nextLoad; split <;> rfl
@[simp] theorem nextLoad_eq (s : State) : s.nextLoad.eq = s.eq := by
  unfold State.nextLoad; split <;> rfl
@[simp] theorem nextLoad_setupBase (s : State) : s.nextLoad.setupBase = s.setupBase := by
  unfold State.nextLoad; split <;> rfl
@[simp] theorem nextLoad_pending (s : State) : s.nextLoad.pending = s.pending := by
  unfold State.nextLoad; split <;> rfl

/-- What a detach or STOP does at the Chain Loader is withdrawing its read and taking the next load. -/
theorem detachLoads_cases (s : State) (l : Fin 16) :
    (∃ d : Loader, s.detachLoads l = { s with loader := d }) ∨
      ∃ d : Loader, s.detachLoads l = State.endLoad { s with loader := d } := by
  unfold State.detachLoads
  cases s.loader.active with
  | none => exact .inl ⟨_, rfl⟩
  | some a =>
    simp only
    split_ifs
    · exact .inl ⟨_, rfl⟩
    · exact .inr ⟨_, rfl⟩
    · exact .inl ⟨_, rfl⟩

@[simp] theorem detachLoads_lanes (s : State) (l : Fin 16) : (s.detachLoads l).lanes = s.lanes := by
  obtain ⟨d, h⟩ | ⟨d, h⟩ := detachLoads_cases s l <;> simp [h, State.endLoad]

@[simp] theorem detachLoads_ports (s : State) (l : Fin 16) : (s.detachLoads l).ports = s.ports := by
  obtain ⟨d, h⟩ | ⟨d, h⟩ := detachLoads_cases s l <;> simp [h, State.endLoad]

/-- The frame in flight of a lane is read from the lanes and ports alone. -/
theorem inFlight_congr {s t : State} (hl : t.lanes = s.lanes) (hp : t.ports = s.ports) (l : Fin 16) :
    t.inFlight l = s.inFlight l := by
  simp only [State.inFlight, hl, hp]

theorem runDetach_changes (s : State) (id : CmdId) (l : Fin 16) : Changes s (s.runDetach id l) := by
  unfold State.runDetach
  simp only
  split_ifs with h1 h2 h3
  · exact (Change.finish _).changes
  · exact refuse_changes s id _
  all_goals
    have hc := Lane.not_closed_of h1 h2
    have hloads : Changes s ((s.finishAll (s.detachAborts l)).detachLoads l) :=
      (finishAll_changes s _).tail (.detachLoads l)
    obtain ⟨hq, ha⟩ := detachLoads_none (s.finishAll (s.detachAborts l)) l
    have hd := Change.detach (s := (s.finishAll (s.detachAborts l)).detachLoads l) l id (by simpa using hc) hq ha
    rw [inFlight_congr (s := s) (by simp) (by simp)] at hd
    simp only [detachLoads_lanes, State.finishAll_lanes] at hd
  · exact (hloads.tail hd).tail (.finish _)
  · exact hloads.tail hd

theorem runLaneSet_changes (s : State) (id : CmdId) (l : Fin 16) (opts : OptionBlock) :
    Changes s (s.runLaneSet id l opts) := by
  unfold State.runLaneSet
  simp only
  split
  · exact refuse_changes s id _
  · rename_i x hx
    split_ifs with hc
    · exact refuse_changes s id _
    · exact applySync_changes (laneChange_changes (.options opts x (by simpa using hc) hx))

theorem runQuiesce_changes (s : State) (id : CmdId) (l : Fin 16) : Changes s (s.runQuiesce id l) := by
  unfold State.runQuiesce
  cases hs : s.lanes[l].state <;> simp only [hs]
  case active => exact applyOut_changes (laneChange_changes (.quiesce id hs))
  all_goals exact (Change.finish _).changes

theorem runResume_changes (s : State) (id : CmdId) (l : Fin 16) : Changes s (s.runResume id l) := by
  unfold State.runResume
  cases hs : s.lanes[l].state <;> simp only [hs]
  case quiesced => exact laneChange_changes (.resume id (.inl hs))
  case faulted => exact laneChange_changes (.resume id (.inr hs))
  all_goals exact (Change.finish _).changes

theorem runSync_changes (s : State) (id : CmdId) (l : Fin 16) (limit : BitVec 16) :
    Changes s (s.runSync id l limit) := by
  unfold State.runSync
  simp only
  split_ifs with hc
  · exact refuse_changes s id _
  · exact (Change.finish _).changes
  · exact (Change.finish _).changes
  all_goals
    exact laneChange_changes (.waiters _ fun hd => absurd hd (Lane.state_of_not_closed (by simpa using hc)).1)

theorem runRegSet_changes (s : State) (id : CmdId) (l : Fin 16) (addr layer value : Byte) (present : Bool) :
    Changes s (s.runRegSet id l addr layer value present) := by
  unfold State.runRegSet
  simp only
  split_ifs with hr hc
  · exact refuse_changes s id _
  · exact refuse_changes s id _
  all_goals
    exact applySync_changes (laneChange_changes (.layer addr.toNat layer _ (by simpa using hc)))

theorem runReadDirect_changes (s : State) (id : CmdId) (l : Fin 16) (addr : Byte) :
    Changes s (s.runReadDirect id l addr) := by
  unfold State.runReadDirect
  simp only
  split_ifs with hr hc
  · exact refuse_changes s id _
  · exact refuse_changes s id _
  · exact laneChange_changes (.direct id _ _ (by simpa using (not_or.1 hc).1))

theorem runWriteDirect_changes (s : State) (id : CmdId) (l : Fin 16) (addr value : Byte) :
    Changes s (s.runWriteDirect id l addr value) := by
  unfold State.runWriteDirect
  simp only
  split_ifs with hr hs
  · exact refuse_changes s id _
  · refine laneChange_changes (.direct id _ _ ?_)
    obtain h | h := hs <;> simp [Lane.closed, -Fin.getElem_fin, h]
  · exact refuse_changes s id _

theorem runWatchSet_changes (s : State) (id : CmdId) (l : Fin 16) (record : WatchRecord) :
    Changes s (s.runWatchSet id l record) := by
  unfold State.runWatchSet
  simp only
  split
  · exact refuse_changes s id _
  · rename_i i w hr
    split_ifs with hc hw
    · exact refuse_changes s id _
    · exact refuse_changes s id _
    · exact applyOut_changes (laneChange_changes (.watch record i w (by simpa using hc) hr hw))

theorem runFlagsClear_changes (s : State) (id : CmdId) (l : Fin 16) (watchMask flagMask : Byte) :
    Changes s (s.runFlagsClear id l watchMask flagMask) := by
  unfold State.runFlagsClear
  simp only
  split_ifs with hc
  · exact refuse_changes s id _
  · exact applyOut_changes (laneChange_changes (.flags watchMask flagMask (by simpa using hc)))

theorem runCalIndex_changes (s : State) (id : CmdId) (l : Fin 16) (index : Byte) :
    Changes s (s.runCalIndex id l index) := by
  unfold State.runCalIndex
  simp only
  split
  · exact refuse_changes s id _
  · split_ifs with hc
    · exact refuse_changes s id _
    all_goals
      exact applySync_changes (laneChange_changes (.index l _ .command none (by simpa using (not_or.1 hc).1)))

theorem runCalClear_changes (s : State) (id : CmdId) (l : Fin 16) : Changes s (s.runCalClear id l) := by
  unfold State.runCalClear
  simp only
  split_ifs with hc
  · exact refuse_changes s id _
  · exact (Change.finish _).changes
  · exact applySync_changes (laneChange_changes (.clearTable (by simpa using hc)))

theorem runChainLoad_changes (s : State) (id : CmdId) (l : Fin 16) (mode : Byte) (first : HostAddr) :
    Changes s (s.runChainLoad id l mode first) := by
  unfold State.runChainLoad
  split
  · exact refuse_changes s id _
  · rename_i m _
    simp only
    split_ifs with ha hc hb hn
    · exact refuse_changes s id _
    · exact refuse_changes s id _
    · exact refuse_changes s id _
    · obtain ⟨hactive, hdisc, hqueue⟩ := hn
      have hq : s.loader.queue = [] := by simpa using hqueue
      have h := Change.startLoad (s := s) { id := id, lane := l, mode := m, first := first }
        (by simpa using hc) (by simpa using hactive) hdisc hq
      simpa [hq] using h.changes
    · exact (Change.queueLoad { id := id, lane := l, mode := m, first := first } (by simpa using hc)
        (by omega) (by simpa using hn)).changes

theorem runLaneReport_changes (s : State) (id : CmdId) (l : Fin 16) (buffer : HostAddr) :
    Changes s (s.runLaneReport id l buffer) := by
  unfold State.runLaneReport
  split_ifs
  · exact refuse_changes s id _
  · exact (Change.askReport _ _ _).changes

theorem runCmd_changes (s : State) (id : CmdId) (lane : Byte) (cmd : Cmd) :
    Changes s (s.runCmd id lane cmd) := by
  unfold State.runCmd
  cases laneOfByte lane with
  | none =>
    simp only
    split_ifs <;> exact (Change.finish _).changes
  | some l =>
    cases cmd
    case nop => exact (Change.finish _).changes
    case laneAttach => exact runAttach_changes ..
    case laneDetach => exact runDetach_changes ..
    case laneSet => exact runLaneSet_changes ..
    case laneQuiesce => exact runQuiesce_changes ..
    case laneResume => exact runResume_changes ..
    case laneSync => exact runSync_changes ..
    case regSet => exact runRegSet_changes ..
    case readDirect => exact runReadDirect_changes ..
    case writeDirect => exact runWriteDirect_changes ..
    case watchSet => exact runWatchSet_changes ..
    case flagsClear => exact runFlagsClear_changes ..
    case calIndex => exact runCalIndex_changes ..
    case calClear => exact runCalClear_changes ..
    case chainLoad => exact runChainLoad_changes ..
    case laneReport => exact runLaneReport_changes ..

/-! ### Release and acceptance -/

theorem firstReleasable_mem {earlier es : List OctEntry} {e : OctEntry}
    (h : firstReleasable earlier es = some e) : e ∈ es ∧ e.stage = .waiting := by
  induction es generalizing earlier with
  | nil => simp [firstReleasable] at h
  | cons x xs ih =>
    unfold firstReleasable at h
    split_ifs at h with hx
    · obtain rfl := Option.some.inj h
      exact ⟨by simp, hx.1⟩
    · exact ⟨List.mem_cons_of_mem _ (ih h).1, (ih h).2⟩

theorem releaseN_changes (n : Nat) (s : State) : Changes s (s.releaseN n) := by
  induction n generalizing s with
  | zero => exact .refl
  | succ n ih =>
    unfold State.releaseN
    cases hr : firstReleasable [] s.table with
    | none => exact .refl
    | some e =>
      obtain ⟨hmem, hstage⟩ := firstReleasable_mem hr
      exact .head (.activate e.id ⟨e, hmem, rfl, hstage⟩) ((runCmd_changes _ _ _ _).trans (ih _))

theorem release_changes (s : State) : Changes s s.release := releaseN_changes _ s

/-- What a record before the Command Unit leaves of the table. -/
theorem Intake.table_eq {s u : State} (h : Intake s u) : u.table = s.table := by
  cases h <;> rfl

theorem enter_changes {s u : State} (hu : Intake s u) {r : Request} (hid : ∀ x ∈ s.table, x.id ≠ r.id) :
    Changes s (u.enter r) := by
  unfold State.enter
  split_ifs
  · exact (Change.enterFinished u (r.entry (.finished .range none none)) hu hid rfl).changes
  · exact (Change.enter u (r.entry .waiting) hu hid rfl).changes
  · exact .head (.enter u (r.entry .active) hu hid rfl) (runCmd_changes _ _ _ _)

theorem accept_changes {s u : State} (hu : Intake s u) (r : Request) : Changes s (u.accept r) := by
  unfold State.accept
  split_ifs with h1 h2 h3
  · exact (Change.refuseRecord u hu _ _ _).changes
  · exact (Change.refuseRecord u hu _ _ _).changes
  all_goals have hid : ∀ x ∈ s.table, x.id ≠ r.id := by simpa [hu.table_eq] using h2
  · exact (enter_changes hu hid).trans (release_changes _)
  · exact enter_changes hu hid

theorem takeRecord_changes (s : State) (r : Request) : Changes s (s.takeRecord r) := by
  unfold State.takeRecord
  split_ifs with h
  · exact accept_changes (.row _ h) r
  · exact .refl

theorem acceptBytes_changes {s u : State} (hu : Intake s u) (q : Fin 4) (bs : List Byte) :
    Changes s (u.acceptBytes q bs) := by
  unfold State.acceptBytes
  split
  · exact (Change.refuseRecord u hu _ _ _).changes
  · exact accept_changes hu _

end Sys2Proof.Machine
end

section
/-! Every step is a chain of elementary changes: registers, the device, the Host Port, lanes and ports. -/

namespace Sys2Proof.Machine

/-! ### The device -/

theorem controlStart_changes (s : State) : Changes s s.controlStart := by
  unfold State.controlStart
  split_ifs with h
  · exact .head (.registers { s with errorCode := .none } rfl)
      (Change.start (s := { s with errorCode := .none }) s.setupBase h.1).changes
  · exact .refl

theorem halt_changes {s : State} (h : s.device.writes = true) (code : ErrorCode) (c : Causes) :
    Changes s (State.setCauses c { s.dropPending.ringsOff with device := .halted, errorCode := code }) :=
  .head (.halt h) (.head (.registers { s.dropPending.ringsOff with device := .halted, errorCode := code } rfl)
    (setCauses_changes (s := { s.dropPending.ringsOff with device := .halted, errorCode := code })
      (by simp) c))

theorem settleStop_changes (s : State) : Changes s s.settleStop := by
  unfold State.settleStop
  split_ifs with h
  · exact .head (.halt (by simp [DeviceState.writes, h.1]))
      (setCauses_changes (s := { s.dropPending.ringsOff with device := .halted }) (by simp) _)
  · exact .refl

theorem hostWriteHalt_changes {s : State} (h : s.device.writes = true) : Changes s s.hostWriteHalt :=
  halt_changes h _ _

@[simp] theorem nextLoad_errorCode (s : State) : s.nextLoad.errorCode = s.errorCode := by
  unfold State.nextLoad; split <;> rfl

@[simp] theorem stopLoads_device (s : State) : s.stopLoads.device = s.device := by
  unfold State.stopLoads
  cases s.loader.active with
  | none => rfl
  | some a => simp only; split_ifs <;> simp [State.endLoad]

theorem controlStop_changes (s : State) : Changes s s.controlStop := by
  unfold State.controlStop
  split_ifs with h
  · refine .trans (.head .markStopped <| (finishAll_changes _ s.stopAborts).trans <|
      .head .stopLanes <| .head .stopLoads <| .head .withdrawReports <| .single (.stopping ?_))
      (settleStop_changes _)
    simpa using h
  · exact .refl

theorem controlWrite_changes (s : State) (v : Word) : Changes s (s.controlWrite v) := by
  unfold State.controlWrite
  split
  · exact Change.reset.changes
  · split
    · exact controlStart_changes s
    · exact controlStop_changes s
    · exact .refl
    · exact .refl

theorem endReset_changes (s : State) : Changes s s.endReset := by
  unfold State.endReset
  split_ifs
  · exact Change.clear.changes
  · exact .refl

/-! ### Rings and registers -/

theorem SubRing.Ok.withState {r : SubRing} (h : r.Ok) (hr : r.state ≠ .off) (x : RingState) :
    SubRing.Ok { r with state := x } := fun _ => h hr

theorem ringError_changes {s : State} (hd : s.device ≠ .resetting) {q : Fin 4} (hq : s.rings[q].state = .active)
    (cause : RingErrorCause) : Changes s (s.ringError q cause) := by
  have hok : s.rings[q].state ≠ .off := by rw [hq]; decide
  exact .head (.ring q { s.rings[q] with state := .error } fun h => h.withState hok _)
    (.head (.event _) (setCauses_changes (by simpa using hd) _))

theorem setBadPost_changes {s : State} (hd : s.device ≠ .resetting) : Changes s s.setBadPost :=
  .head (.registers { s with badPost := true } rfl) (setCauses_changes (s := { s with badPost := true }) hd _)

theorem setBadReturn_changes {s : State} (hd : s.device ≠ .resetting) : Changes s s.setBadReturn :=
  .head (.registers { s with badReturn := true } rfl) (setCauses_changes (s := { s with badReturn := true }) hd _)

theorem postWrite_changes (s : State) (q : Fin 4) (tail : BitVec 16) : Changes s (s.postWrite q tail) := by
  unfold State.postWrite
  cases hd : s.device
  case resetting => exact .refl
  case running =>
    simp only
    split_ifs with hq ht
    · refine (Change.ring q _ fun h hr => ?_).changes
      obtain ⟨hsize, hbase, hhead, -⟩ := h hr
      exact ⟨hsize, hbase, hhead, ht⟩
    · exact ringError_changes (by simp [hd]) hq _
    · exact setBadPost_changes (by simp [hd])
  all_goals exact setBadPost_changes (by simp [hd])

theorem returnTaken_changes {s : State} (hd : s.device ≠ .resetting) (q : ReturnRing) (n : Nat) :
    Changes s (s.returnTaken q n) := by
  unfold State.returnTaken
  cases q
  case cq =>
    simp only
    split
    · rename_i r hr; exact (Change.returnCq n r hr).changes
    · exact setBadReturn_changes hd
  case eq =>
    simp only
    split
    · rename_i r hr; exact (Change.returnEq n r hr).changes
    · exact setBadReturn_changes hd

theorem returnWrite_changes (s : State) (q : ReturnRing) (head : BitVec 16) :
    Changes s (s.returnWrite q head) := by
  unfold State.returnWrite
  cases hd : s.device
  case resetting => exact .refl
  case running => exact returnTaken_changes (by simp [hd]) q _
  case stopping => exact returnTaken_changes (by simp [hd]) q _
  all_goals exact setBadReturn_changes (by simp [hd])

theorem statusCleared_changes (s : State) (v : Word) : Changes s (s.statusCleared v) := by
  unfold State.statusCleared
  split_ifs
  · exact .refl
  · exact (Change.registers _ rfl).changes

theorem enableWritten_changes (s : State) (v : Word) : Changes s (s.enableWritten v) := by
  unfold State.enableWritten
  split_ifs with h
  · exact .refl
  · exact .head (.registers { s with intEnable := Causes.ofBits v 0 } rfl)
      (Change.message (s := { s with intEnable := Causes.ofBits v 0 }) _ h).changes

/-- The six low bits of an address are those of its low word. -/
theorem aligned64_append (high low : Word) : aligned64 (high ++ low) = decide (low.toNat % 64 = 0) := by
  have h : (high ++ low).toNat % 64 = low.toNat % 64 := by
    have hlow := low.isLt
    rw [BitVec.toNat_append, ← Nat.shiftLeft_add_eq_or_of_lt hlow, Nat.shiftLeft_eq]
    omega
  simp only [aligned64, h]

theorem windowWrite_changes (s : State) (reg : WindowReg) (v : Word) : Changes s (s.windowWrite reg v) := by
  unfold State.windowWrite
  cases reg
  case ident => exact .refl
  case control => exact controlWrite_changes s v
  case status => exact statusCleared_changes s v
  case intEnable => exact enableWritten_changes s v
  case setupLow =>
    simp only [State.setupLowWritten]
    split_ifs
    · exact .refl
    · refine (Change.setupBase _ fun _ => ?_).changes
      rw [aligned64_append, decide_eq_true_eq, BitVec.toNat_and, show 64 = 2 ^ 6 from rfl,
        Nat.and_mod_two_pow, show (0xFFFFFFC0#32).toNat % 2 ^ 6 = 0 from rfl, Nat.and_zero]
  case setupHigh =>
    simp only [State.setupHighWritten]
    split_ifs
    · exact .refl
    · refine (Change.setupBase _ fun h => ?_).changes
      rw [aligned64_append, decide_eq_true_eq]
      have h' : s.setupBase.toNat % 64 = 0 := by simpa [aligned64] using h
      rw [BitVec.extractLsb'_toNat]
      omega
  case post => exact postWrite_changes s _ _
  case ringReturn => exact returnWrite_changes s _ _

/-! ### The Host Port -/

theorem setupReadEnd_changes (s : State) (r : HostRead) {a : HostAddr} {ts : List Transfer}
    (h : s.transfers = .setupRead a true :: ts) :
    Changes s (if s.device = .starting then (s.ended ts).setupEnd r else s.ended ts) := by
  have hend : Change s (s.ended ts) := .ended _ _ h (by simp [Transfer.isBlockRead]) (by simp [Transfer.isEventWrite])
  split_ifs with hd
  · have hfail (err : ErrorCode) : Changes s ((s.ended ts).startFailed err) :=
      .head hend (.head (.startFailed hd)
        (.head (.registers { s.ended ts with device := .halted, errorCode := err } rfl)
          (setCauses_changes (s := { s.ended ts with device := .halted, errorCode := err }) (by simp) _)))
    unfold State.setupEnd
    split
    · exact hfail _
    · split_ifs with hp
      · exact .head hend (.head (.setupTaken _ hd hp) (setCauses_changes (by simp) _))
      · exact hfail _
  · exact hend.changes

theorem fetchStart_changes {s t : State} (h : execFetchStart s = .next t) : Changes s t := by
  unfold execFetchStart at h
  split_ifs at h with hg
  · obtain ⟨hd, hf, ht, hl⟩ := hg
    split at h
    · obtain rfl := Host.Outcome.next.inj h
      exact (Change.askFetch _ _ hd hf ht (by simpa using hl)).changes
    · obtain rfl := Host.Outcome.next.inj h
      exact .refl
  · obtain rfl := Host.Outcome.next.inj h
    exact .refl

theorem fetchEnd_changes (s : State) (r : HostRead) {q : Fin 4} {a : HostAddr} {ts : List Transfer}
    (h : s.transfers = .fetch q a :: ts) :
    Changes s (if s.device = .resetting then s.ended ts else (s.ended ts).fetchEnds q r) := by
  have hend : Change s (s.ended ts) := .ended _ _ h (by simp [Transfer.isBlockRead]) (by simp [Transfer.isEventWrite])
  split_ifs with hd
  · exact hend.changes
  have htaken : Changes s
      (if (s.ended ts).rings[q].state = .active then (s.ended ts).fetchTaken q r else s.ended ts) := by
    split_ifs with hq
    · unfold State.fetchTaken
      split
      · exact .head hend (ringError_changes (s := s.ended ts) hd hq _)
      · split_ifs with hrun
        · exact acceptBytes_changes (.fetched q a ts h hrun hq) q _
        · exact hend.changes
    · exact hend.changes
  unfold State.fetchEnds
  extract_lets u
  split
  · exact htaken.trans (settleStop_changes u)
  · exact htaken

theorem completionWriteStart_changes {s t : State} (h : execCompletionWriteStart s = .next t) :
    Changes s t := by
  unfold execCompletionWriteStart at h
  split at h
  · obtain rfl := Host.Outcome.next.inj h
    exact .refl
  · split_ifs at h with hg
    · obtain rfl := Host.Outcome.next.inj h
      exact (Change.askCompletion _ _ hg.2.1 hg.2.2).changes
    · obtain rfl := Host.Outcome.next.inj h
      exact .refl

theorem popFinished_cq (s : State) (r : OutRing) :
    { s.popFinished with cq := r } = State.popFinished { s with cq := r } := by
  unfold State.popFinished
  cases h : s.finishList with
  | nil => simp [h]
  | cons x xs => cases x <;> rfl

theorem completionWriteEnd_changes (s : State) (r : HostWrite) {a : HostAddr} {bs : List Byte}
    {ts : List Transfer} (h : s.transfers = .completionWrite a bs :: ts) :
    Changes s (if s.device = .resetting then s.ended ts
      else match r with
        | .ok => (s.ended ts).completionWritten
        | .error => if (s.ended ts).device.writes then (s.ended ts).hostWriteHalt else s.ended ts) := by
  have hend : Change s (s.ended ts) := .ended _ _ h (by simp [Transfer.isBlockRead]) (by simp [Transfer.isEventWrite])
  by_cases hd : s.device = .resetting
  · rw [if_pos hd]
    exact hend.changes
  rw [if_neg hd]
  cases r
  case ok =>
    simp only [State.completionWritten]
    rw [popFinished_cq]
    refine .head (.completionWritten a bs ts h) (.head .popFinished ?_)
    refine (setCauses_changes ?_ _).trans (settleStop_changes _)
    unfold State.popFinished
    split <;> exact hd
  case error =>
    simp only
    split_ifs with hw
    · exact .head hend (hostWriteHalt_changes hw)
    · exact hend.changes

theorem eventWriteStart_changes {s t : State} (h : execEventWriteStart s = .next t) : Changes s t := by
  unfold execEventWriteStart at h
  split at h
  · obtain rfl := Host.Outcome.next.inj h
    exact .refl
  · rename_i hp
    split_ifs at h with hg
    · obtain rfl := Host.Outcome.next.inj h
      exact (Change.askEvent _ _ _ hg.1 (by simp [hp]) hg.2).changes
    · obtain rfl := Host.Outcome.next.inj h
      exact .refl

theorem eventWriteEnd_changes (s : State) (r : HostWrite) {a : HostAddr} {bs : List Byte} {n : Nat}
    {ts : List Transfer} (h : s.transfers = .eventWrite a bs n :: ts) :
    Changes s (if s.device = .resetting then s.ended ts
      else match r with
        | .ok => (s.ended ts).eventWritten n
        | .error => if (s.ended ts).device.writes then (s.ended ts).hostWriteHalt else (s.ended ts).eventLost) := by
  have hend (hd : s.device = .resetting ∨ s.device.writes = true) : Change s (s.ended ts) :=
    .ended _ _ h (by simp [Transfer.isBlockRead]) fun _ => hd
  by_cases hd : s.device = .resetting
  · rw [if_pos hd]
    exact (hend (.inl hd)).changes
  rw [if_neg hd]
  cases r
  case ok =>
    exact .head (.eventWritten a bs n ts h hd)
      (setCauses_changes (s := { s.ended ts with
        eq := { s.eq with ring := s.eq.ring.written, pending := s.eq.pending.tail, lost := s.eq.lost - n } }) hd _)
  case error =>
    simp only
    split_ifs with hw
    · exact .head (hend (.inr hw)) (hostWriteHalt_changes hw)
    · exact (Change.eventLost a bs n ts h hd).changes

theorem reportWriteEnd_changes (s : State) (r : HostWrite) {id : CmdId} {a : HostAddr} {bs : List Byte}
    {ts : List Transfer} (h : s.transfers = .reportWrite id a bs true :: ts) :
    Changes s (if s.device = .resetting then s.ended ts else (s.ended ts).reportWritten id bs r) := by
  have hend : Change s (s.ended ts) := .ended _ _ h (by simp [Transfer.isBlockRead]) (by simp [Transfer.isEventWrite])
  split_ifs with hd
  · exact hend.changes
  unfold State.reportWritten
  split_ifs
  · exact .head hend (Change.finish _).changes
  · cases r <;> exact .head hend (Change.finish _).changes

/-! ### The Chain Loader -/

/-- Finishing a command and taking the next load do not meet. -/
theorem finish_nextLoad (s : State) (c : Completion) : (s.finish c).nextLoad = s.nextLoad.finish c := by
  by_cases h : (s.table.any fun e => decide (e.id = c.id) && !e.finished) = true
  · simp only [State.finish, nextLoad_table, h, if_true, nextLoad_finishList]
    unfold State.nextLoad
    cases s.loader.queue <;> rfl
  · simp only [State.finish, nextLoad_table, h, Bool.false_eq_true, if_false]

theorem loadEnds_changes {s : State} {a : HostAddr} {ts : List Transfer}
    (h : s.transfers = .blockRead a true :: ts) (hd : s.device ≠ .resetting) (hx : s.loader.discarded = false)
    (load : ActiveLoad) (st : Status) (d : Option Detail) (p n : Nat) :
    Changes s ((s.ended ts).loadEnds load st d p n) := by
  unfold State.loadEnds
  rw [finish_nextLoad]
  exact .head (.loadEnded a ts h hd hx) (.head (.finish _) (release_changes _))

theorem blockTaken_changes {s : State} {a : HostAddr} {ts : List Transfer}
    (h : s.transfers = .blockRead a true :: ts) (hd : s.device ≠ .resetting) (hx : s.loader.discarded = false)
    {load : ActiveLoad} (hl : s.loader.active = some load) (r : HostRead) :
    Changes s ((s.ended ts).blockTaken load r) := by
  unfold State.blockTaken
  split_ifs
  · exact loadEnds_changes h hd hx ..
  cases r
  case error => exact loadEnds_changes h hd hx ..
  case data bs =>
    simp only [State.ended_loader]
    split
    · exact loadEnds_changes h hd hx ..
    · rename_i st hst
      unfold State.blockPassed
      split_ifs with hn hp
      · exact (Change.chainWhole a ts h hd load hl bs st hst).changes
      · exact loadEnds_changes h hd hx ..
      · exact (Change.askBlock a _ ts h hd load hl (by omega) bs st hst).changes

theorem blockReadEnd_changes (s : State) (r : HostRead) {a : HostAddr} {ts : List Transfer}
    (h : s.transfers = .blockRead a true :: ts) :
    Changes s (if s.device = .resetting then s.ended ts else (s.ended ts).blockEnd r) := by
  have hend (hb : s.device = .resetting ∨ s.loader.active = none ∧ s.loader.discarded = false) :
      Change s (s.ended ts) := .ended _ _ h (fun _ => hb) (by simp [Transfer.isEventWrite])
  split_ifs with hd
  · exact (hend (.inl hd)).changes
  unfold State.blockEnd
  split_ifs with hx
  · exact (Change.blockDropped a ts h hd hx).changes
  · have hx' : s.loader.discarded = false := by simpa using hx
    cases hl : s.loader.active with
    | none => simpa only [State.ended_loader, hl] using (hend (.inr ⟨hl, hx'⟩)).changes
    | some load => simpa only [State.ended_loader, hl] using blockTaken_changes h hd hx' hl r

theorem commitOut_changes {s : State} {load : ActiveLoad} (hl : s.loader.active = some load) :
    Changes s (s.applyOut load.lane
      (s.lanes[load.lane].commitOut (s.inFlight load.lane) load s.loader.staging)) := by
  unfold Lane.commitOut
  split
  · refine applyOut_changes ?_
    rw [show (_ : LaneOut).lane = s.lanes[load.lane] from rfl, State.setLane_self]
  · rename_i hc
    exact applySync_changes (Change.commit load hl hc).changes

@[simp] theorem applyOut_loader (s : State) (l : Fin 16) (o : LaneOut) : (s.applyOut l o).loader = s.loader := by
  simp [State.applyOut]

theorem chainCommit_changes {s t : State} (h : execChainCommit s = .next t) : Changes s t := by
  unfold execChainCommit at h
  split at h
  · rename_i load hl
    split_ifs at h with hc
    · obtain rfl := Host.Outcome.next.inj h
      exact ((commitOut_changes hl).tail (.commitEnded load (by simpa using hl) hc.1)).trans (release_changes _)
    · obtain rfl := Host.Outcome.next.inj h
      exact .refl
  · obtain rfl := Host.Outcome.next.inj h
    exact .refl

/-! ### Lanes and ports -/

theorem portGrant_changes {s t : State} {p : Fin 4} (h : execPortGrant p s = .next t) : Changes s t := by
  unfold execPortGrant at h
  split_ifs at h with hg
  · split at h
    · rename_i sel l c ha
      obtain rfl := Host.Outcome.next.inj h
      obtain ⟨x, -, hx⟩ := List.exists_of_findSome?_eq_some ha
      unfold State.offer at hx
      split at hx
      · rename_i m hm
        obtain ⟨c', hc, he⟩ := Option.map_eq_some_iff.1 hx
        obtain ⟨rfl, rfl, rfl⟩ : x = sel ∧ m = l ∧ c' = c := by simpa using he
        exact (Change.grant p x m c' hg.1 hg.2 hm hc).changes
      · simp at hx
    · obtain rfl := Host.Outcome.next.inj h
      exact .refl
  · obtain rfl := Host.Outcome.next.inj h
    exact .refl

theorem frameEnd_changes {s t : State} {p : Fin 4} {a : FrameAnswer} (h : execFrameEnd p a s = .next t) :
    Changes s t := by
  unfold execFrameEnd at h
  split at h
  · rename_i f hf
    split_ifs at h with hd
    · obtain rfl := Host.Outcome.next.inj h
      exact (Change.frameDropped p hd).changes
    · obtain rfl := Host.Outcome.next.inj h
      exact (applyOut_changes (Change.frameEnd p f _ _ hf hd).changes).trans (release_changes _)
  · obtain rfl := Host.Outcome.next.inj h
    exact .refl

theorem timeOut_changes (s : State) (l : Fin 16) (id : CmdId) : Changes s (s.timeOut l id) := by
  unfold State.timeOut
  simp only
  split_ifs with h
  · exact applyOut_changes (laneChange_changes (.waiters _ fun _ hw => by simp only [hw, List.filter_nil]))
  · exact .refl

theorem pollTimed_state {L : Lane} (h : L.pollTimed = true) : L.state ≠ .detached := by
  simp only [Lane.pollTimed, Bool.and_eq_true, decide_eq_true_eq] at h
  exact h.1

/-- A tick with the timer set to 0 first. -/
theorem tick_changes (s : State) (l : Fin 16) (h : s.lanes[l].state ≠ .detached) :
    Changes s (s.setLane l (Lane.pollTick { s.lanes[l] with pollTimer := 0 } (s.inFlight l))) := by
  have h1 := Change.lane l _ (Lane.Change.timer (o := s.inFlight l) (L := s.lanes[l]) 0 h)
  have hin : (s.setLane l { s.lanes[l] with pollTimer := 0 }).inFlight l = s.inFlight l := by
    simp only [State.inFlight, State.setLane_get_self, State.setLane_ports]
  have h2 := Change.lane (s := s.setLane l { s.lanes[l] with pollTimer := 0 }) l
    (Lane.pollTick { s.lanes[l] with pollTimer := 0 } (s.inFlight l))
    (by rw [hin, State.setLane_get_self]; exact .tick h)
  rw [State.setLane_setLane] at h2
  exact .head h1 h2.changes

theorem pollTick_changes {s t : State} {l : Fin 16} (h : execPollTick l s = .next t) : Changes s t := by
  unfold execPollTick at h
  split_ifs at h with hg
  · obtain rfl := Host.Outcome.next.inj h
    exact tick_changes s l (pollTimed_state hg.2)
  · obtain rfl := Host.Outcome.next.inj h
    exact .refl

theorem countPoll_changes (s : State) (l : Fin 16) :
    Changes s (s.setLane l (s.lanes[l].countPoll (s.inFlight l))) := by
  unfold Lane.countPoll
  split_ifs with ht
  · exact tick_changes s l (pollTimed_state ht)
  · exact laneChange_changes (.timer _ (pollTimed_state ht))
  · rw [State.setLane_self]

theorem tickLane_changes (s : State) (l : Fin 16) : Changes s (s.tickLane l) := by
  refine applyOut_changes ((countPoll_changes s l).trans ?_)
  have h := laneChange_changes (s := s.setLane l (s.lanes[l].countPoll (s.inFlight l))) (l := l)
    (M := (Lane.countWaiters (s.lanes[l].countPoll (s.inFlight l))).lane)
    (by
      rw [State.setLane_get_self]
      exact .waiters _ fun _ hw => by simp only [hw, List.filter_nil, List.map_nil])
  rwa [State.setLane_setLane] at h

theorem foldl_tickLane_changes (ls : List (Fin 16)) (s : State) : Changes s (ls.foldl State.tickLane s) := by
  induction ls generalizing s with
  | nil => exact .refl
  | cons l ls ih => exact (tickLane_changes s l).trans (ih _)

theorem timebaseTick_changes (s : State) : Changes s s.timebaseTick := by
  unfold State.timebaseTick
  split_ifs
  · exact .refl
  · exact foldl_tickLane_changes _ s

/-! ### The step -/

/-- Every command is a chain of elementary changes. -/
theorem exec_changes {i : Instr} {s t : State} (h : exec i s = .next t) : Changes s t := by
  have hnext {u : State} (hu : Changes s u) (h : Host.Outcome.next (φ := Fault) (ρ := Refusal) u = .next t) :
      Changes s t := by
    obtain rfl := Host.Outcome.next.inj h
    exact hu
  cases i
  case start => exact hnext (controlStart_changes s) h
  case stop => exact hnext (controlStop_changes s) h
  case reset => exact hnext Change.reset.changes h
  case hostBusReset => exact hnext Change.reset.changes h
  case powerOn => exact hnext Change.clear.changes h
  case resetEnd => exact hnext (endReset_changes s) h
  case post => exact hnext (postWrite_changes s _ _) h
  case ringReturn => exact hnext (returnWrite_changes s _ _) h
  case statusWrite => exact hnext (statusCleared_changes s _) h
  case intEnableWrite => exact hnext (enableWritten_changes s _) h
  case registerWrite => exact hnext (windowWrite_changes s _ _) h
  case setupReadStart => exact hnext (Change.startHead _).changes h
  case blockReadStart => exact hnext (Change.startHead _).changes h
  case reportWriteStart => exact hnext (Change.startHead _).changes h
  case setupReadEnd r =>
    simp only [exec, execSetupReadEnd] at h
    split at h
    · rename_i hts; exact hnext (setupReadEnd_changes s r hts) h
    · exact hnext .refl h
  case fetchStart => exact fetchStart_changes h
  case fetchEnd r =>
    simp only [exec, execFetchEnd] at h
    split at h
    · rename_i hts; exact hnext (fetchEnd_changes s r hts) h
    · exact hnext .refl h
  case completionWriteStart => exact completionWriteStart_changes h
  case completionWriteEnd r =>
    simp only [exec, execCompletionWriteEnd] at h
    split at h
    · rename_i hts; exact hnext (completionWriteEnd_changes s r hts) h
    · exact hnext .refl h
  case eventWriteStart => exact eventWriteStart_changes h
  case eventWriteEnd r =>
    simp only [exec, execEventWriteEnd] at h
    split at h
    · rename_i hts; exact hnext (eventWriteEnd_changes s r hts) h
    · exact hnext .refl h
  case portGrant => exact portGrant_changes h
  case frameEnd => exact frameEnd_changes h
  case syncTimeout l ring tag =>
    simp only [exec, execSyncTimeout] at h
    split_ifs at h
    · exact hnext .refl h
    · exact hnext (timeOut_changes s _ _) h
  case pollTick => exact pollTick_changes h
  case blockReadEnd r =>
    simp only [exec, execBlockReadEnd] at h
    split at h
    · rename_i hts; exact hnext (blockReadEnd_changes s r hts) h
    · exact hnext .refl h
  case chainCommit => exact chainCommit_changes h
  case reportWriteEnd r =>
    simp only [exec, execReportWriteEnd] at h
    split at h
    · rename_i hts; exact hnext (reportWriteEnd_changes s r hts) h
    · exact hnext .refl h
  all_goals exact hnext (takeRecord_changes s _) h

/-- A step takes one command off the queue, and what it does else is a chain of elementary changes. -/
theorem step_changes {s t : State} (h : step s = .next t) :
    Changes { s with pending := s.pending.tail } t := by
  unfold step at h
  split at h
  · rename_i hp
    obtain rfl := Host.Outcome.next.inj h
    have hs : { s with pending := s.pending.tail } = s := by
      cases s
      simp_all
    rw [hs]
    exact timebaseTick_changes s
  · rename_i i rest hp
    rw [hp]
    exact exec_changes h

end Sys2Proof.Machine
end

section
/-! The Host Port's list under the elementary changes, and the invariant of the Outstanding Command Table
(spec/08_command_rings_and_completions.md). -/

namespace Sys2Proof.Machine

/-! ### Transfers that are in flight from their asking -/

/-- A kind of transfer that is in flight from its asking, so that no withdrawal and no RESET takes one back. -/
structure Transfer.Lasting (p : Transfer → Bool) : Prop where
  message : p .message = false
  started : ∀ t, p t = true → t.started = true
  start : ∀ t, p t.start = p t
  blockRead : ∀ a b, p (.blockRead a b) = false

theorem Transfer.isFetch_lasting : Transfer.Lasting Transfer.isFetch where
  message := rfl
  started t h := by
    cases t with
    | fetch => rfl
    | _ => cases h
  start t := by cases t <;> rfl
  blockRead _ _ := rfl

theorem Transfer.isCompletionWrite_lasting : Transfer.Lasting Transfer.isCompletionWrite where
  message := rfl
  started t h := by
    cases t with
    | completionWrite => rfl
    | _ => cases h
  start t := by cases t <;> rfl
  blockRead _ _ := rfl

theorem Transfer.isEventWrite_lasting : Transfer.Lasting Transfer.isEventWrite where
  message := rfl
  started t h := by
    cases t with
    | eventWrite => rfl
    | _ => cases h
  start t := by cases t <;> rfl
  blockRead _ _ := rfl

/-- The transfers of a kind at the Host Port. -/
def State.count (s : State) (p : Transfer → Bool) : Nat := s.transfers.countP p

theorem State.count_of_eq {s t : State} (h : t.transfers = s.transfers) (p : Transfer → Bool) :
    t.count p = s.count p := by rw [count, h, count]

theorem State.count_eq_zero {s : State} {p : Transfer → Bool} (h : s.transfers.any p = false) :
    s.count p = 0 := by
  simpa [State.count] using h

@[simp] theorem State.count_ask (s : State) (t : Transfer) (p : Transfer → Bool) :
    (s.ask t).count p = s.count p + if p t then 1 else 0 := by
  simp [State.count, List.countP_singleton]

/-- Asking a message and sending what is due. -/
theorem State.count_messageOnRise (s : State) (b : Bool) {p : Transfer → Bool} (h : p .message = false) :
    (s.messageOnRise b).count p = s.count p := by
  unfold State.messageOnRise
  split
  · rw [State.count, State.sendDue_countP _ h]; simp [State.count, h]
  · rfl

theorem State.count_ended {s : State} {t : Transfer} {ts : List Transfer} (h : s.transfers = t :: ts)
    {p : Transfer → Bool} (hp : p .message = false) :
    (s.ended ts).count p + (if p t then 1 else 0) = s.count p := by
  rw [State.count, State.ended_countP _ _ hp, State.count, h, List.countP_cons]

theorem State.count_withdraw_le (s : State) (q : Transfer → Bool) {p : Transfer → Bool} (hp : p .message = false) :
    (s.withdraw q).count p ≤ s.count p := by
  unfold State.withdraw
  rw [State.count, State.sendDue_countP _ hp]
  exact List.Sublist.countP_le List.filter_sublist

namespace Transfer.Lasting

variable {p : Transfer → Bool} (hp : Transfer.Lasting p) (s : State)
include hp

theorem filter {q : Transfer → Bool} (ts : List Transfer) (hq : ∀ t, t.started = true → q t = true) :
    (ts.filter q).countP p = ts.countP p := by
  rw [List.countP_filter]
  refine List.countP_congr fun t _ => ?_
  simp only [Bool.and_eq_true]
  exact ⟨And.left, fun h => ⟨h, hq t (hp.started t h)⟩⟩

theorem count_withdraw (q : Transfer → Bool) : (s.withdraw q).count p = s.count p := by
  unfold State.withdraw
  rw [State.count, State.sendDue_countP _ hp.message, hp.filter _ fun t ht => by simp [ht]]
  rfl

theorem count_startHead (q : Transfer → Bool) : (s.startHead q).count p = s.count p := by
  unfold State.startHead
  split
  · rfl
  · rename_i t ts h
    split_ifs
    · simp only [State.count, h, List.countP_cons, hp.start]
    · rfl

theorem count_nextLoad : s.nextLoad.count p = s.count p := by
  unfold State.nextLoad
  split
  · rfl
  · rw [State.count_ask, hp.blockRead]; rfl

theorem count_endLoad : s.endLoad.count p = s.count p := by
  unfold State.endLoad
  rw [hp.count_nextLoad, hp.count_withdraw]

theorem count_detachLoads (l : Fin 16) : (s.detachLoads l).count p = s.count p := by
  obtain ⟨d, h⟩ | ⟨d, h⟩ := detachLoads_cases s l <;> rw [h]
  · rfl
  · rw [hp.count_endLoad]; rfl

end Transfer.Lasting

/-- What STOP does at the Chain Loader is emptying its queue and, with no read in flight, ending its load. -/
theorem stopLoads_cases (s : State) :
    s.stopLoads = { s with loader := { s.loader with queue := [] } } ∨
      s.stopLoads = State.endLoad { s with loader := { s.loader with queue := [] } } := by
  unfold State.stopLoads
  cases s.loader.active with
  | none => exact .inl rfl
  | some a =>
    simp only
    split_ifs
    · exact .inl rfl
    · exact .inr rfl

theorem Transfer.Lasting.count_stopLoads {p : Transfer → Bool} (hp : Transfer.Lasting p) (s : State) :
    s.stopLoads.count p = s.count p := by
  obtain h | h := stopLoads_cases s <;> rw [h]
  · rfl
  · rw [hp.count_endLoad]; rfl

theorem Transfer.Lasting.count_controlReset {p : Transfer → Bool} (hp : Transfer.Lasting p) (s : State) :
    s.controlReset.count p = s.count p := by
  unfold State.controlReset
  split_ifs
  · rfl
  · exact hp.filter _ fun t ht => ht

/-! ### The table under its operations -/

/-- The table invariant reads the table, the finish list and the number of fetches. -/
theorem TableInv.of_eq {s t : State} (h : TableInv s) (htable : t.table = s.table)
    (hlist : t.finishList = s.finishList) (hcount : t.count Transfer.isFetch ≤ s.count Transfer.isFetch) :
    TableInv t := by
  obtain ⟨hids, hroom, hfin, hnodup, hmem, href⟩ := h
  unfold State.count at hcount
  unfold TableInv
  rw [htable, hlist]
  exact ⟨hids, by omega, hfin, hnodup, hmem, by omega⟩

theorem TableInv.mapTable {s : State} (h : TableInv s) (f : OctEntry → OctEntry)
    (hid : ∀ e, (f e).id = e.id) (hf : ∀ e ∈ s.table, (f e).finished = e.finished) :
    TableInv { s with table := s.table.map f } := by
  obtain ⟨hids, hroom, hfin, hnodup, hmem, href⟩ := h
  have hmap : (s.table.map f).map (·.id) = s.table.map (·.id) := by simp [hid]
  refine ⟨by simpa only [hmap] using hids, by simpa using hroom, ?_, hnodup, ?_, href⟩
  · intro e' he'
    obtain ⟨e, he, rfl⟩ := List.mem_map.1 he'
    rw [hid, hf e he]
    exact hfin e he
  · simpa only [hmap] using hmem

@[simp] theorem FinishItem.entryId_entry (id : CmdId) : (FinishItem.entry id).entryId = some id := rfl
@[simp] theorem FinishItem.entryId_refusal (id : CmdId) (lane : Option Byte) (st : Status) :
    (FinishItem.refusal id lane st).entryId = none := rfl

theorem mem_entryIds {fl : List FinishItem} {id : CmdId} :
    id ∈ fl.filterMap FinishItem.entryId ↔ FinishItem.entry id ∈ fl := by
  simp only [List.mem_filterMap]
  constructor
  · rintro ⟨x, hx, h⟩
    cases x <;> simp at h
    rwa [← h]
  · exact fun h => ⟨_, h, rfl⟩

theorem OctEntry.finished_finish {c : Completion} {e : OctEntry} (h : e.id = c.id) :
    (e.finish c).finished = true := by
  unfold OctEntry.finish
  split_ifs with hc
  · rfl
  · simpa [h] using hc

theorem TableInv.finish {s : State} (h : TableInv s) (c : Completion) : TableInv (s.finish c) := by
  obtain ⟨hex, heq⟩ | ⟨-, heq⟩ := s.finish_cases c
  · rw [heq]
    obtain ⟨e, he, hid, hopen⟩ := hex
    obtain ⟨hids, hroom, hfin, hnodup, hmem, href⟩ := h
    have hmap : (s.table.map (OctEntry.finish c)).map (·.id) = s.table.map (·.id) := by simp
    have hnew : FinishItem.entry c.id ∉ s.finishList := by
      rw [← hid, ← hfin e he, hopen]; decide
    refine ⟨by simpa only [hmap] using hids, by simpa using hroom, ?_, ?_, ?_, ?_⟩
    · intro x' hx'
      obtain ⟨x, hx, rfl⟩ := List.mem_map.1 hx'
      by_cases hxc : x.id = c.id
      · simp [OctEntry.finished_finish hxc, hxc]
      · rw [OctEntry.finish_of_ne hxc, hfin x hx]
        simp [hxc]
    · rw [List.filterMap_append, List.nodup_append]
      refine ⟨hnodup, by simp, fun a ha b hb => ?_⟩
      obtain rfl : c.id = b := by simpa [eq_comm] using hb
      rintro rfl
      exact hnew (mem_entryIds.1 ha)
    · intro id hmem'
      simp only [hmap]
      rw [mem_entryIds, List.mem_append] at hmem'
      obtain hold | hlast := hmem'
      · exact hmem id (mem_entryIds.2 hold)
      · obtain rfl : id = c.id := by simpa using hlast
        exact List.mem_map.2 ⟨e, he, hid⟩
    · simpa [FinishItem.isRefusal, List.countP_append] using href
  · rw [heq]; exact h

theorem TableInv.setActive {s : State} (h : TableInv s) {id : CmdId}
    (hw : ∃ e ∈ s.table, e.id = id ∧ e.stage = .waiting) : TableInv (s.setActive id) := by
  obtain ⟨e, he, rfl, hstage⟩ := hw
  refine h.mapTable _ (fun x => by split_ifs <;> rfl) fun x hx => ?_
  split_ifs with hxe
  · obtain rfl := List.inj_on_of_nodup_map h.1 hx he hxe
    simp [OctEntry.finished, hstage]
  · rfl

/-- A record before the Command Unit finds a free entry and no refusal waiting (R140, R148). -/
theorem Intake.room {s u : State} (hu : Intake s u) (h : TableInv s) :
    u.table = s.table ∧ u.finishList = s.finishList ∧
      u.table.length + u.count Transfer.isFetch < Config.tableSize ∧
      u.finishList.countP FinishItem.isRefusal + u.count Transfer.isFetch = 0 := by
  obtain ⟨-, hroom, -, -, -, href⟩ := h
  cases hu with
  | row q hopen =>
    simp only [State.intakeOpen, Bool.and_eq_true, Bool.not_eq_true', State.tableFree,
      decide_eq_true_eq] at hopen
    obtain ⟨⟨⟨-, hf⟩, hfree⟩, hr⟩ := hopen
    have hcount : s.count Transfer.isFetch = 0 := State.count_eq_zero hf
    have hzero : s.finishList.countP FinishItem.isRefusal = 0 := by simpa using hr
    rw [hf] at hfree
    exact ⟨rfl, rfl, by rw [hcount]; simpa using hfree, by omega⟩
  | fetched q addr ts hts =>
    have hc := State.count_ended hts (p := Transfer.isFetch) rfl
    rw [show (Transfer.fetch q addr).isFetch = true from rfl, if_pos rfl] at hc
    change s.table.length + s.count Transfer.isFetch ≤ _ at hroom
    change s.finishList.countP FinishItem.isRefusal + s.count Transfer.isFetch ≤ 1 at href
    refine ⟨rfl, rfl, ?_, ?_⟩
    · change s.table.length + (s.ended ts).count Transfer.isFetch < _
      omega
    · change s.finishList.countP FinishItem.isRefusal + (s.ended ts).count Transfer.isFetch = 0
      omega

theorem TableInv.enter {s u : State} (hu : Intake s u) (h : TableInv s) {e : OctEntry}
    (hid : ∀ x ∈ s.table, x.id ≠ e.id) (he : e.finished = false) : TableInv (u.addEntry e) := by
  obtain ⟨htable, hlist, hroom, href⟩ := hu.room h
  obtain ⟨hids, -, hfin, hnodup, hmem, -⟩ := h
  unfold State.count at hroom href
  unfold TableInv
  simp only [State.addEntry_table, State.addEntry_finishList, State.addEntry_transfers, htable, hlist] at *
  refine ⟨?_, by simp; omega, ?_, hnodup, ?_, by omega⟩
  · rw [List.map_append, List.nodup_append]
    refine ⟨hids, by simp, fun a ha b hb => ?_⟩
    obtain ⟨x, hx, rfl⟩ := List.mem_map.1 ha
    obtain rfl : b = e.id := by simpa using hb
    exact hid x hx
  · intro x hx
    obtain hold | hlast := List.mem_append.1 hx
    · exact hfin x hold
    · obtain rfl : x = e := by simpa using hlast
      refine ⟨fun hf => by simp [he] at hf, fun hin => ?_⟩
      obtain ⟨y, hy, hxy⟩ := List.mem_map.1 (hmem x.id (mem_entryIds.2 hin))
      exact absurd hxy (hid y hy)
  · intro id hin
    simpa using Or.inl (by simpa using hmem id hin)

theorem TableInv.enterFinished {s u : State} (hu : Intake s u) (h : TableInv s) {e : OctEntry}
    (hid : ∀ x ∈ s.table, x.id ≠ e.id) (he : e.finished = true) :
    TableInv { u.addEntry e with finishList := u.finishList ++ [.entry e.id] } := by
  obtain ⟨htable, hlist, hroom, href⟩ := hu.room h
  obtain ⟨hids, -, hfin, hnodup, hmem, -⟩ := h
  unfold State.count at hroom href
  unfold TableInv
  simp only [State.addEntry_table, State.addEntry_transfers, htable, hlist] at *
  have hnew : FinishItem.entry e.id ∉ s.finishList := fun hin => by
    obtain ⟨y, hy, hye⟩ := List.mem_map.1 (hmem e.id (mem_entryIds.2 hin))
    exact hid y hy hye
  refine ⟨?_, by simp; omega, ?_, ?_, ?_, ?_⟩
  · rw [List.map_append, List.nodup_append]
    refine ⟨hids, by simp, fun a ha b hb => ?_⟩
    obtain ⟨x, hx, rfl⟩ := List.mem_map.1 ha
    obtain rfl : b = e.id := by simpa using hb
    exact hid x hx
  · intro x hx
    obtain hold | hlast := List.mem_append.1 hx
    · rw [hfin x hold]
      simp [hid x hold]
    · obtain rfl : x = e := by simpa using hlast
      simp [he]
  · rw [List.filterMap_append, List.nodup_append]
    refine ⟨hnodup, by simp, fun a ha b hb => ?_⟩
    obtain rfl : e.id = b := by simpa [eq_comm] using hb
    rintro rfl
    exact hnew (mem_entryIds.1 ha)
  · intro id hin
    rw [mem_entryIds, List.mem_append] at hin
    obtain hold | hlast := hin
    · simpa using Or.inl (by simpa using hmem id (mem_entryIds.2 hold))
    · obtain rfl : id = e.id := by simpa using hlast
      simp
  · simp only [List.countP_append, List.countP_singleton, FinishItem.isRefusal]
    simp
    omega

theorem TableInv.refuseRecord {s u : State} (hu : Intake s u) (h : TableInv s) (id : CmdId) (lane : Option Byte)
    (st : Status) : TableInv (u.refuseRecord id lane st) := by
  obtain ⟨htable, hlist, hroom, href⟩ := hu.room h
  obtain ⟨hids, -, hfin, hnodup, hmem, -⟩ := h
  unfold State.count at hroom href
  unfold TableInv
  simp only [State.refuseRecord_table, State.refuseRecord_finishList, State.refuseRecord_transfers, htable,
    hlist] at *
  refine ⟨hids, by omega, by simpa using hfin, ?_, ?_, ?_⟩
  · rwa [List.filterMap_append, List.filterMap_cons_none rfl, List.filterMap_nil, List.append_nil]
  · simpa [List.filterMap_append] using hmem
  · simp only [List.countP_append, List.countP_singleton, FinishItem.isRefusal]
    simp
    omega

theorem TableInv.popFinished {s : State} (h : TableInv s) : TableInv s.popFinished := by
  unfold State.popFinished
  split
  · exact h
  · rename_i hlist
    obtain ⟨hids, hroom, hfin, hnodup, hmem, href⟩ := h
    rw [hlist] at hfin hnodup hmem href
    rw [List.filterMap_cons_none rfl] at hnodup
    refine ⟨hids, hroom, by simpa using hfin, hnodup,
      by simpa using hmem, ?_⟩
    simp only [List.countP_cons] at href
    exact le_trans (by simp) href
  · rename_i id rest hlist
    obtain ⟨hids, hroom, hfin, hnodup, hmem, href⟩ := h
    rw [hlist] at hfin hnodup hmem href
    simp only [List.filterMap_cons, FinishItem.entryId_entry, List.nodup_cons, mem_entryIds] at hnodup
    have hsub : (s.table.filter fun e => decide (e.id ≠ id)).Sublist s.table := List.filter_sublist
    refine ⟨(hsub.map _).nodup hids, (Nat.add_le_add_right hsub.length_le _).trans hroom, ?_, hnodup.2, ?_, ?_⟩
    · intro e he
      obtain ⟨he, hne⟩ := List.mem_filter.1 he
      rw [hfin e he]
      simp [show e.id ≠ id by simpa using hne]
    · intro x hx
      obtain ⟨e, he, rfl⟩ := List.mem_map.1 (hmem x (mem_entryIds.2 (List.mem_cons_of_mem _ (mem_entryIds.1 hx))))
      refine List.mem_map.2 ⟨e, List.mem_filter.2 ⟨he, ?_⟩, rfl⟩
      have hne : e.id ≠ id := fun heq => hnodup.1 (by rw [← heq]; exact mem_entryIds.1 hx)
      simpa using hne
    · simpa [List.countP_cons, FinishItem.isRefusal] using href

/-! ### The table under the elementary changes -/

theorem TableInv.clear (s : State) : TableInv s.cleared := by
  refine ⟨?_, ?_, ?_, ?_, ?_, ?_⟩ <;> simp [State.cleared, State.reset]

theorem Change.keeps_table {s t : State} (hc : Change s t) (h : TableInv s) : TableInv t := by
  have hfetch := Transfer.isFetch_lasting
  cases hc with
  | finish c => exact h.finish c
  | activate id hw => exact h.setActive hw
  | markStopped =>
    exact h.mapTable _ (fun e => by split_ifs <;> rfl) fun e _ => by split_ifs <;> rfl
  | enter u e hu hid he => exact h.enter hu hid he
  | enterFinished u e hu hid he => exact h.enterFinished hu hid he
  | refuseRecord u hu id lane st => exact h.refuseRecord hu id lane st
  | popFinished => exact h.popFinished
  | clear => exact TableInv.clear s
  | askFetch q a hd hf ht hl =>
    obtain ⟨hids, -, hfin, hnodup, hmem, -⟩ := h
    have hcount : s.transfers.countP Transfer.isFetch = 0 := State.count_eq_zero hf
    have hroom : s.table.length < Config.tableSize := by
      simpa [State.tableFree, hf] using ht
    refine ⟨hids, ?_, hfin, hnodup, hmem, ?_⟩
    · simp [hcount, Transfer.isFetch]; omega
    · simp [hcount, hl, Transfer.isFetch]
  | message b => exact h.of_eq (by simp) (by simp) (State.count_messageOnRise s b rfl).le
  | ended x ts hts => exact h.of_eq rfl rfl (by have := State.count_ended hts (p := Transfer.isFetch) rfl; omega)
  | completionWritten a bs ts hts =>
    exact h.of_eq rfl rfl (State.count_ended hts (p := Transfer.isFetch) rfl).le
  | eventWritten a bs n ts hts =>
    exact h.of_eq rfl rfl (State.count_ended hts (p := Transfer.isFetch) rfl).le
  | eventLost a bs n ts hts =>
    exact h.of_eq rfl rfl (State.count_ended hts (p := Transfer.isFetch) rfl).le
  | chainWhole a ts hts =>
    exact h.of_eq rfl rfl (State.count_ended hts (p := Transfer.isFetch) rfl).le
  | askBlock a next ts hts =>
    refine h.of_eq rfl rfl ?_
    rw [State.count_ask]
    exact (State.count_ended hts (p := Transfer.isFetch) rfl).le
  | loadEnded a ts hts =>
    refine h.of_eq (by simp) (by simp) ?_
    rw [hfetch.count_nextLoad]
    exact (State.count_ended hts (p := Transfer.isFetch) rfl).le
  | blockDropped a ts hts =>
    refine h.of_eq (by simp) (by simp) ?_
    rw [hfetch.count_nextLoad]
    exact (State.count_ended hts (p := Transfer.isFetch) rfl).le
  | startHead p =>
    refine h.of_eq ?_ ?_ (hfetch.count_startHead s p).le
    all_goals unfold State.startHead; split <;> [rfl; (split_ifs <;> rfl)]
  | withdrawReports => exact h.of_eq rfl rfl (hfetch.count_withdraw s _).le
  | reset =>
    refine h.of_eq ?_ ?_ (hfetch.count_controlReset s).le
    all_goals unfold State.controlReset; split_ifs <;> rfl
  | detachLoads l =>
    refine h.of_eq ?_ ?_ (hfetch.count_detachLoads s l).le
    all_goals obtain ⟨d, hd⟩ | ⟨d, hd⟩ := detachLoads_cases s l <;> simp [hd, State.endLoad]
  | stopLoads =>
    refine h.of_eq ?_ ?_ (hfetch.count_stopLoads s).le
    all_goals obtain hd | hd := stopLoads_cases s <;> simp [hd, State.endLoad]
  | startLoad q => exact h.of_eq (by simp) (by simp) (hfetch.count_nextLoad _).le
  | commitEnded load => exact h.of_eq (by simp) (by simp) (hfetch.count_nextLoad _).le
  | askCompletion a bs => exact h.of_eq rfl rfl (by simp [Transfer.isFetch])
  | askEvent a bs n => exact h.of_eq rfl rfl (by simp [Transfer.isFetch])
  | askReport id a bs => exact h.of_eq rfl rfl (by simp [Transfer.isFetch])
  | start a => exact h.of_eq rfl rfl (by rw [State.count_ask]; exact le_refl _)
  | registers t ht => rw [ht]; exact h
  | event e => exact h.of_eq (by simp) (by simp) (State.count_of_eq (by simp) _).le
  | halt => exact h
  | _ => exact h

/-- Settles O9: each elementary change keeps the table, the finish list and the reserved entry together. -/
theorem stepKeepsTheTable : Obligations.StepKeepsTheTable := by
  unfold Obligations.StepKeepsTheTable
  intro s t h hstep
  exact (step_changes hstep).keep Change.keeps_table h

end Sys2Proof.Machine
end

section
/-! The queue of commands under the elementary changes, and the invariant of the Chain Loader
(spec/07_configuration_chains.md). -/

namespace Sys2Proof.Machine

/-! ### The commands that wait -/

theorem Intake.pending_eq {s u : State} (hu : Intake s u) : u.pending = s.pending := by
  cases hu <;> rfl

theorem startHead_cases (s : State) (p : Transfer → Bool) :
    s.startHead p = s ∨ ∃ t ts, s.transfers = t :: ts ∧ p t = true ∧ t.started = false ∧
      s.startHead p = { s with transfers := t.start :: ts } := by
  unfold State.startHead
  split
  · exact .inl rfl
  · rename_i t ts h
    split_ifs with ht
    · simp only [Bool.and_eq_true, Bool.not_eq_true'] at ht
      exact .inr ⟨t, ts, h, ht.1, ht.2, rfl⟩
    · exact .inl rfl

/-- No elementary change touches the commands that wait. -/
theorem Change.pending_eq {s t : State} (hc : Change s t) : t.pending = s.pending := by
  cases hc with
  | registers t h => rw [h]
  | enter u e hu => simpa using hu.pending_eq
  | enterFinished u e hu => exact hu.pending_eq
  | refuseRecord u hu => simpa using hu.pending_eq
  | popFinished => unfold State.popFinished; split <;> rfl
  | startHead p =>
    obtain h | ⟨x, xs, -, -, -, h⟩ := startHead_cases s p <;> rw [h]
  | reset => unfold State.controlReset; split_ifs <;> rfl
  | detachLoads l => obtain ⟨d, hd⟩ | ⟨d, hd⟩ := detachLoads_cases s l <;> simp [hd, State.endLoad]
  | stopLoads => obtain hd | hd := stopLoads_cases s <;> simp [hd, State.endLoad]
  | startLoad q => simp
  | blockDropped a ts => simp
  | loadEnded a ts => simp
  | commitEnded load => simp
  | message b => simp
  | event e => simp
  | finish c => simp
  | halt => rfl
  | _ => rfl

/-- Every command answers a next state. -/
theorem exec_next (i : Instr) (s : State) : ∃ t, exec i s = .next t := by
  cases i
  case setupReadEnd => simp only [exec, execSetupReadEnd]; split <;> exact ⟨_, rfl⟩
  case fetchStart => simp only [exec, execFetchStart]; split_ifs <;> [split; skip] <;> exact ⟨_, rfl⟩
  case fetchEnd => simp only [exec, execFetchEnd]; split <;> exact ⟨_, rfl⟩
  case completionWriteStart =>
    simp only [exec, execCompletionWriteStart]; split <;> [skip; split_ifs] <;> exact ⟨_, rfl⟩
  case completionWriteEnd => simp only [exec, execCompletionWriteEnd]; split <;> exact ⟨_, rfl⟩
  case eventWriteStart =>
    simp only [exec, execEventWriteStart]; split <;> [skip; split_ifs] <;> exact ⟨_, rfl⟩
  case eventWriteEnd => simp only [exec, execEventWriteEnd]; split <;> exact ⟨_, rfl⟩
  case portGrant => simp only [exec, execPortGrant]; split_ifs <;> [split; skip] <;> exact ⟨_, rfl⟩
  case frameEnd => simp only [exec, execFrameEnd]; split <;> [split_ifs; skip] <;> exact ⟨_, rfl⟩
  case syncTimeout => simp only [exec, execSyncTimeout]; split_ifs <;> exact ⟨_, rfl⟩
  case pollTick => simp only [exec, execPollTick]; split_ifs <;> exact ⟨_, rfl⟩
  case blockReadEnd => simp only [exec, execBlockReadEnd]; split <;> exact ⟨_, rfl⟩
  case chainCommit => simp only [exec, execChainCommit]; split <;> [split_ifs; skip] <;> exact ⟨_, rfl⟩
  case reportWriteEnd => simp only [exec, execReportWriteEnd]; split <;> exact ⟨_, rfl⟩
  all_goals exact ⟨_, rfl⟩

theorem step_next (s : State) : ∃ t, step s = .next t := by
  unfold step
  split
  · exact ⟨_, rfl⟩
  · exact exec_next _ _

/-- Settles O3: what a step does after taking its command off the queue leaves the rest of the queue. -/
theorem stepGoesOn : Obligations.StepGoesOn := by
  unfold Obligations.StepGoesOn
  intro s
  obtain ⟨t, ht⟩ := step_next s
  exact ⟨t, ht, (step_changes ht).keep (P := fun u => u.pending = s.pending.tail)
    (fun hc hu => hc.pending_eq.trans hu) rfl⟩

/-! ### The Chain Loader -/

/-- `t` has the block reads of `s`, some of them perhaps started since. -/
def SameBlockReads (s t : State) : Prop :=
  t.count Transfer.isBlockRead = s.count Transfer.isBlockRead ∧
    ∀ x ∈ t.transfers, x.isBlockRead = true → x.started = true ∨ x ∈ s.transfers

theorem SameBlockReads.of_eq {s t : State} (h : t.transfers = s.transfers) : SameBlockReads s t :=
  ⟨State.count_of_eq h _, fun _ hx _ => .inr (h ▸ hx)⟩

theorem SameBlockReads.ask {s : State} {x : Transfer} (h : x.isBlockRead = false) :
    SameBlockReads s (s.ask x) := by
  refine ⟨by simp [h], fun y hy hb => .inr ?_⟩
  obtain hy | hy := List.mem_append.1 hy
  · exact hy
  · obtain rfl : y = x := by simpa using hy
    simp [h] at hb

theorem SameBlockReads.sendDue {s t : State} (h : SameBlockReads s t) : SameBlockReads s t.sendDue :=
  ⟨(State.sendDue_countP t rfl).trans h.1, fun x hx hb => h.2 x (List.dropWhile_subset _ hx) hb⟩

theorem SameBlockReads.message (s : State) (b : Bool) : SameBlockReads s (s.messageOnRise b) := by
  unfold State.messageOnRise
  split_ifs
  · exact (SameBlockReads.ask rfl).sendDue
  · exact .of_eq rfl

theorem SameBlockReads.ended {s : State} {x : Transfer} {ts : List Transfer} (h : s.transfers = x :: ts)
    (hx : x.isBlockRead = false) : SameBlockReads s (s.ended ts) := by
  refine SameBlockReads.sendDue (t := { s with transfers := ts }) ⟨?_, fun y hy _ => .inr ?_⟩
  · simp [State.count, h, hx]
  · rw [h]; exact List.mem_cons_of_mem _ hy

theorem SameBlockReads.startHead (s : State) (p : Transfer → Bool) : SameBlockReads s (s.startHead p) := by
  obtain h | ⟨x, xs, hts, -, -, h⟩ := startHead_cases s p <;> rw [h]
  · exact .of_eq rfl
  · refine ⟨?_, fun y hy hb => ?_⟩
    · have hk : x.start.isBlockRead = x.isBlockRead := by cases x <;> rfl
      simp only [State.count, hts, List.countP_cons, hk]
    · obtain rfl | hy := List.mem_cons.1 hy
      · left
        cases x with
        | blockRead a b => rfl
        | _ => cases hb
      · exact .inr (by rw [hts]; exact List.mem_cons_of_mem _ hy)

theorem SameBlockReads.withdrawReports (s : State) : SameBlockReads s (s.withdraw Transfer.isReport) := by
  refine SameBlockReads.sendDue ⟨?_, fun y hy _ => .inr (List.mem_filter.1 hy).1⟩
  simp only [State.count]
  rw [List.countP_filter]
  refine List.countP_congr fun x _ => ?_
  cases x <;> simp [Transfer.isBlockRead, Transfer.isReport]

/-- The loader invariant reads the loader, its block reads and whether the part is in RESETTING. -/
theorem LoaderInv.of_same {s t : State} (h : LoaderInv s) (hl : t.loader = s.loader)
    (hd : t.device ≠ .resetting → s.device ≠ .resetting) (hr : SameBlockReads s t) : LoaderInv t := by
  obtain ⟨hq, hnone, hsome, hreads⟩ := h
  unfold LoaderInv
  rw [hl]
  refine ⟨hq, hnone, hsome, fun hdev => ?_⟩
  obtain ⟨hcount, hstarted⟩ := hreads (hd hdev)
  refine ⟨hr.1.trans hcount, fun hx x hmem hb => ?_⟩
  obtain hst | hold := hr.2 x hmem hb
  · exact hst
  · exact hstarted hx x hold hb

/-- With no block read outstanding the next load is taken within the invariant (R122, R124). -/
theorem LoaderInv.nextLoad {s : State} (hq : s.loader.queue.length ≤ Config.loaderQueueSize)
    (hx : s.loader.discarded = false) (hc : s.device ≠ .resetting → s.count Transfer.isBlockRead = 0) :
    LoaderInv s.nextLoad := by
  unfold State.nextLoad
  split
  · rename_i hnil
    refine ⟨hq, fun _ => ⟨rfl, fun _ => hnil⟩, by simp, fun hd => ⟨?_, by simp [hx]⟩⟩
    have h0 : s.transfers.countP Transfer.isBlockRead = 0 := hc hd
    simp only [h0, Loader.reads, hx]
    rfl
  · rename_i load rest hcons
    rw [hcons] at hq
    refine ⟨Nat.le_of_succ_le hq, by simp, ?_, fun hd => ⟨?_, by simp [hx]⟩⟩
    · simp [hx, Config.chainBlocks]
    · have h0 : s.transfers.countP Transfer.isBlockRead = 0 := hc hd
      simp [Loader.reads, hx, h0, Transfer.isBlockRead]

/-- With no read of the loader started, withdrawing what is asked for leaves none. -/
theorem count_withdraw_blockRead {s : State} (h : s.blockReadInFlight = false) :
    (s.withdraw Transfer.isBlockRead).count Transfer.isBlockRead = 0 := by
  unfold State.withdraw
  rw [State.count, State.sendDue_countP _ rfl]
  simp only [List.countP_filter, List.countP_eq_zero, State.blockReadInFlight, List.any_eq_false] at h ⊢
  intro x hx
  have := h x hx
  cases hb : x.isBlockRead <;> cases hs : x.started <;> simp_all

theorem LoaderInv.endLoad {s : State} (hq : s.loader.queue.length ≤ Config.loaderQueueSize)
    (hx : s.loader.discarded = false) (hr : s.blockReadInFlight = false) : LoaderInv s.endLoad :=
  LoaderInv.nextLoad (by simpa using hq) (by simpa using hx) fun _ => count_withdraw_blockRead hr

/-- Where one block read is outstanding and one is started, it is that one. -/
theorem started_of_blockReadInFlight {s : State} (hc : s.count Transfer.isBlockRead ≤ 1)
    (hr : s.blockReadInFlight = true) : ∀ x ∈ s.transfers, x.isBlockRead = true → x.started = true := by
  intro x hx hb
  by_contra hs
  obtain ⟨y, hy, hyb⟩ := List.any_eq_true.1 hr
  simp only [Bool.and_eq_true] at hyb
  have hpair : [x, y].Subperm s.transfers := by
    refine List.subperm_of_subset ?_ (by simp [hx, hy])
    simp only [List.nodup_cons, List.mem_singleton]
    exact ⟨fun he => hs (he ▸ hyb.2), by simp⟩
  have := hpair.countP_le Transfer.isBlockRead
  simp only [List.countP_cons, hb, hyb.1, List.countP_nil, if_true] at this
  have : 2 ≤ s.count Transfer.isBlockRead := this
  omega

theorem Loader.reads_le {d : Loader} (hx : d.discarded = false) : d.reads ≤ 1 := by
  unfold Loader.reads
  rw [hx]
  split
  · split <;> simp
  · simp

theorem LoaderInv.detachLoads {s : State} (h : LoaderInv s) (l : Fin 16) : LoaderInv (s.detachLoads l) := by
  obtain ⟨hq, hnone, hsome, hreads⟩ := h
  have hq' := (List.length_filter_le (fun q => decide (q.lane ≠ l)) s.loader.queue).trans hq
  unfold State.detachLoads
  cases ha : s.loader.active with
  | none =>
    obtain ⟨hst, hempty⟩ := hnone ha
    refine ⟨hq', fun _ => ⟨hst, fun hx => by simp [hempty hx]⟩, by simp [ha], fun hd => ?_⟩
    simpa only [Loader.reads] using hreads hd
  | some a =>
    obtain ⟨hx, hpos⟩ := hsome a ha
    simp only
    split_ifs with hl hr
    · refine ⟨hq', fun _ => ⟨rfl, by simp⟩, by simp, fun hd => ?_⟩
      obtain ⟨hcount, -⟩ := hreads hd
      have hle : s.count Transfer.isBlockRead ≤ 1 := hcount.trans_le (Loader.reads_le hx)
      have hpos : 0 < s.count Transfer.isBlockRead := by
        obtain ⟨y, hy, hyb⟩ := List.any_eq_true.1 hr
        exact List.countP_pos_iff.2 ⟨y, hy, by simp only [Bool.and_eq_true] at hyb; exact hyb.1⟩
      refine ⟨?_, fun _ => started_of_blockReadInFlight hle hr⟩
      have hone : s.transfers.countP Transfer.isBlockRead = 1 := by change s.count _ = 1; omega
      simp [Loader.reads, hone]
    · exact LoaderInv.endLoad hq' hx (Bool.eq_false_of_not_eq_true hr)
    · refine ⟨hq', by simp [ha], by simpa [ha] using hsome a ha, fun hd => ?_⟩
      simpa only [Loader.reads] using hreads hd

theorem LoaderInv.stopLoads {s : State} (h : LoaderInv s) : LoaderInv s.stopLoads := by
  obtain ⟨-, hnone, hsome, hreads⟩ := h
  unfold State.stopLoads
  cases ha : s.loader.active with
  | none =>
    refine ⟨Nat.zero_le _, fun _ => ⟨(hnone ha).1, fun _ => rfl⟩, by simp [ha], fun hd => ?_⟩
    simpa only [Loader.reads] using hreads hd
  | some a =>
    obtain ⟨hx, hpos⟩ := hsome a ha
    simp only
    split_ifs with hr
    · refine ⟨Nat.zero_le _, by simp [ha], by simpa [ha] using hsome a ha, fun hd => ?_⟩
      simpa only [Loader.reads] using hreads hd
    · exact LoaderInv.endLoad (Nat.zero_le _) hx (Bool.eq_false_of_not_eq_true hr)

/-- The end of the one block read outstanding leaves none. -/
theorem LoaderInv.count_ended {s : State} (h : LoaderInv s) (hd : s.device ≠ .resetting) {a : HostAddr}
    {ts : List Transfer} (hts : s.transfers = .blockRead a true :: ts) :
    (s.ended ts).count Transfer.isBlockRead = 0 := by
  obtain ⟨-, hnone, hsome, hreads⟩ := h
  have hc := State.count_ended hts (p := Transfer.isBlockRead) rfl
  rw [show (Transfer.blockRead a true).isBlockRead = true from rfl, if_pos rfl] at hc
  have hcount : s.count Transfer.isBlockRead = s.loader.reads := (hreads hd).1
  have hle : s.loader.reads ≤ 1 := by
    cases ha : s.loader.active with
    | none => simpa [Loader.reads, ha] using Bool.toNat_le _
    | some a => exact Loader.reads_le (hsome a ha).1
  omega

theorem Change.keeps_loader {s t : State} (hc : Change s t) (h : LoaderInv s) : LoaderInv t := by
  cases hc with
  | registers t ht => rw [ht]; exact h
  | message b hd => exact h.of_same (by simp) (by simp) (.message s b)
  | event e => exact h.of_same (by simp) (by simp) (.of_eq (by simp))
  | finish c => exact h.of_same (by simp) (by simp) (.of_eq (by simp))
  | enter u e hu =>
    cases hu with
    | row => exact h.of_same rfl id (.of_eq rfl)
    | fetched q a ts hts => exact h.of_same rfl id (.ended hts rfl)
  | enterFinished u e hu =>
    cases hu with
    | row => exact h.of_same rfl id (.of_eq rfl)
    | fetched q a ts hts => exact h.of_same rfl id (.ended hts rfl)
  | refuseRecord u hu =>
    cases hu with
    | row => exact h.of_same rfl id (.of_eq rfl)
    | fetched q a ts hts => exact h.of_same rfl id (.ended hts rfl)
  | popFinished =>
    unfold State.popFinished
    split
    · exact h
    · exact h.of_same rfl id (.of_eq rfl)
    · exact h.of_same rfl id (.of_eq rfl)
  | startHead p =>
    refine h.of_same ?_ ?_ (.startHead s p)
    all_goals obtain hs | ⟨x, xs, -, -, -, hs⟩ := startHead_cases s p <;> rw [hs]
    all_goals exact id
  | withdrawReports => exact h.of_same rfl id (.withdrawReports s)
  | askFetch => exact h.of_same rfl id (.ask rfl)
  | askCompletion => exact h.of_same rfl id (.ask rfl)
  | askEvent => exact h.of_same rfl id (.ask rfl)
  | askReport => exact h.of_same rfl id (.ask rfl)
  | start a hd => exact h.of_same rfl (by simp [hd]) (.ask rfl)
  | ended x ts hts hb =>
    cases hx : x.isBlockRead with
    | false => exact h.of_same rfl id (.ended hts hx)
    | true =>
      obtain hd | ⟨ha, hdisc⟩ := hb hx
      · obtain ⟨hq, hnone, hsome, -⟩ := h
        exact ⟨hq, hnone, hsome, fun hd' => absurd hd hd'⟩
      · obtain ⟨hq, hnone, hsome, hreads⟩ := h
        refine ⟨hq, hnone, hsome, fun hd => absurd (hreads hd).1 ?_⟩
        simp [hts, hx, Loader.reads, ha, hdisc]
  | completionWritten a bs ts hts => exact h.of_same rfl id (.ended hts rfl)
  | eventWritten a bs n ts hts => exact h.of_same rfl id (.ended hts rfl)
  | eventLost a bs n ts hts => exact h.of_same rfl id (.ended hts rfl)
  | startFailed hd => exact h.of_same rfl (by simp [hd]) (.of_eq rfl)
  | setupTaken bs hd => exact h.of_same rfl (by simp [hd]) (.of_eq rfl)
  | stopping hd => exact h.of_same rfl (by simp [hd]) (.of_eq rfl)
  | halt hd => exact h.of_same rfl (fun _ hr => by simp [hr, DeviceState.writes] at hd) (.of_eq rfl)
  | reset =>
    obtain ⟨hq, hnone, hsome, hreads⟩ := h
    unfold State.controlReset
    split_ifs with hd
    · exact ⟨hq, hnone, hsome, hreads⟩
    · exact ⟨hq, hnone, hsome, fun hd' => absurd rfl hd'⟩
  | clear => exact ⟨Nat.zero_le _, by simp [State.cleared, State.reset, Loader.reset],
      by simp [State.cleared, State.reset, Loader.reset], by
        simp [State.cleared, State.reset, Loader.reset, Loader.reads]⟩
  | queueLoad q hl hr hb =>
    obtain ⟨-, hnone, hsome, hreads⟩ := h
    refine ⟨by simpa using hr, fun ha => ⟨(hnone ha).1, fun hx => ?_⟩, hsome, fun hd => ?_⟩
    · exact absurd ⟨ha, hx, (hnone ha).2 hx⟩ hb
    · simpa only [Loader.reads] using hreads hd
  | startLoad q hl ha hx hq =>
    refine LoaderInv.nextLoad (by simp [Config.loaderQueueSize]) hx fun hd => ?_
    have hcount : s.count Transfer.isBlockRead = s.loader.reads := (h.2.2.2 hd).1
    simpa [Loader.reads, ha, hx, State.count] using hcount
  | detachLoads l => exact h.detachLoads l
  | stopLoads => exact h.stopLoads
  | blockDropped a ts hts hd hx =>
    exact LoaderInv.nextLoad (by simpa using h.1) rfl fun _ => h.count_ended hd hts
  | loadEnded a ts hts hd hx =>
    exact LoaderInv.nextLoad (by simpa using h.1) (by simpa using hx) fun _ => h.count_ended hd hts
  | chainWhole a ts hts hd load hx =>
    have h0 := h.count_ended hd hts
    obtain ⟨hq, -, hsome, -⟩ := h
    obtain ⟨hdisc, hpos⟩ := hsome load hx
    refine ⟨hq, by simp, by simpa [hdisc] using hpos, fun _ => ⟨?_, by simp [hdisc]⟩⟩
    change (s.ended ts).count Transfer.isBlockRead = _
    simp [h0, Loader.reads, hdisc]
  | askBlock a next ts hts hd load hx hp =>
    have h0 := h.count_ended hd hts
    obtain ⟨hq, -, hsome, -⟩ := h
    obtain ⟨hdisc, hpos⟩ := hsome load hx
    refine ⟨hq, by simp, by simpa [hdisc] using hp, fun _ => ⟨?_, by simp [hdisc]⟩⟩
    change ((s.ended ts).ask (.blockRead next false)).count Transfer.isBlockRead = _
    simp [h0, Loader.reads, hdisc, Transfer.isBlockRead]
  | commitEnded load hx hc =>
    obtain ⟨hq, -, hsome, hreads⟩ := h
    obtain ⟨hdisc, -⟩ := hsome load hx
    refine LoaderInv.nextLoad hq hdisc fun hd => ?_
    have hcount : s.count Transfer.isBlockRead = s.loader.reads := (hreads hd).1
    simpa [Loader.reads, hx, hc, hdisc] using hcount
  | _ => exact h.of_same rfl id (.of_eq rfl)

/-- Settles O11: each elementary change keeps the block reads at the Host Port those of the loader's stage. -/
theorem stepKeepsTheLoader : Obligations.StepKeepsTheLoader := by
  unfold Obligations.StepKeepsTheLoader
  intro s t h hstep
  exact (step_changes hstep).keep Change.keeps_loader h

end Sys2Proof.Machine
end

section
/-! The record rings, the pending events and the interrupt messages under the elementary changes
(spec/08_command_rings_and_completions.md, spec/09_events_and_interrupts.md). -/

namespace Sys2Proof.Machine

/-! ### Positions of the completion ring and the event ring (R147, R150, R151) -/

/-- One slot is written. -/
theorem OutRing.Ok.written {r : OutRing} (h : r.Ok) (hfree : r.occupied < r.size) : r.written.Ok := by
  obtain ⟨hsize, hbase, hhead, -, hslot⟩ := h
  refine ⟨hsize, hbase, hhead, hfree, ?_⟩
  have hlt : r.writeSlot < r.size := hslot ▸ Nat.mod_lt _ (by omega)
  have hnext : (r.head + (r.occupied + 1)) % r.size = (r.writeSlot + 1) % r.size := by
    rw [hslot, Nat.mod_add_mod, Nat.add_assoc]
  change (if r.writeSlot + 1 < r.size then r.writeSlot + 1 else 0) = (r.head + (r.occupied + 1)) % r.size
  rw [hnext]
  split_ifs with hw
  · rw [Nat.mod_eq_of_lt hw]
  · rw [show r.writeSlot + 1 = r.size by omega, Nat.mod_self]

/-- The slots counted forward from the head lead to the new head. -/
theorem OutRing.head_returned {r : OutRing} {n : Nat} (hh : r.head < r.size) (hn : n < r.size) :
    r.head + r.returned n = n ∨ r.head + r.returned n = n + r.size := by
  unfold OutRing.returned
  split_ifs <;> omega

theorem OutRing.giveBack_eq_some {r r' : OutRing} {n : Nat} (h : r.giveBack n = some r') :
    n < r.size ∧ r.returned n ≤ r.occupied ∧
      r' = { r with head := n, occupied := r.occupied - r.returned n } := by
  unfold OutRing.giveBack at h
  split_ifs at h with hbad
  exact ⟨by omega, by omega, (Option.some.inj h).symm⟩

theorem OutRing.Ok.giveBack {r r' : OutRing} {n : Nat} (h : r.Ok) (hr : r.giveBack n = some r') : r'.Ok := by
  obtain ⟨hsize, hbase, hhead, hocc, hslot⟩ := h
  obtain ⟨hn, hret, rfl⟩ := OutRing.giveBack_eq_some hr
  refine ⟨hsize, hbase, hn, (Nat.sub_le _ _).trans hocc, ?_⟩
  change r.writeSlot = (n + (r.occupied - r.returned n)) % r.size
  rw [hslot]
  obtain h1 | h1 := OutRing.head_returned hhead hn
  · congr 1; omega
  · rw [← Nat.add_mod_right (n + _)]
    congr 1; omega

theorem ringSizes_bounds {n : Nat} (h : n ∈ ringSizes) : 16 ≤ n ∧ n ≤ 1024 := by
  simp only [ringSizes, List.mem_cons, List.not_mem_nil, or_false] at h
  omega

theorem RingSetup.placed_iff (r : RingSetup) :
    r.placed = true ↔ r.size ∈ ringSizes ∧ aligned64 r.base = true := by
  simp [RingSetup.placed, ringSizes]

theorem RingSetup.outRing_ok {r : RingSetup} (h : r.placed = true) : r.outRing.Ok := by
  obtain ⟨hsize, hbase⟩ := r.placed_iff.1 h
  have hpos : 0 < r.size := by have := ringSizes_bounds hsize; omega
  exact ⟨hsize, hbase, hpos, Nat.zero_le _, (Nat.zero_mod _).symm⟩

theorem RingSetup.subRing_ok {r : RingSetup} (h : r.subOk = true) : r.subRing.Ok := by
  intro hoff
  have hon : r.on = true := by
    by_contra hon
    exact hoff (if_neg hon)
  simp only [RingSetup.subOk, hon, Bool.not_true, Bool.false_or, Bool.and_eq_true] at h
  obtain ⟨hsize, hbase⟩ := r.placed_iff.1 h.1
  have hpos : 0 < r.size := by have := ringSizes_bounds hsize; omega
  exact ⟨hsize, hbase, hpos, hpos⟩

theorem mem_four (q : Fin 4) : q ∈ four := by
  revert q; decide

/-- The rings of a setup block that passes (R168). -/
theorem setupPasses_rings {bs : List Byte} (h : setupPasses bs = true) :
    (∀ q : Fin 4, (setupRing bs q).subRing.Ok) ∧ (setupCq bs).outRing.Ok ∧ (setupEq bs).outRing.Ok := by
  simp only [setupPasses, Bool.and_eq_true, List.all_eq_true] at h
  obtain ⟨⟨⟨⟨⟨⟨-, hsub⟩, -⟩, hcq⟩, -⟩, heq⟩, -⟩ := h
  exact ⟨fun q => RingSetup.subRing_ok (hsub q (mem_four q)), RingSetup.outRing_ok hcq,
    RingSetup.outRing_ok heq⟩

/-! ### Interrupt messages in their turn (R163) -/

/-- No message stands at the head of the Host Port's order, and in RESETTING none stands in it. -/
def State.MessagesInTurn (s : State) : Prop :=
  (∀ t ∈ s.transfers.head?, t.isMessage = false) ∧
    (s.device = .resetting → ∀ t ∈ s.transfers, t.isMessage = false)

theorem State.MessagesInTurn.sendDue {s : State}
    (h : s.device = .resetting → ∀ t ∈ s.transfers, t.isMessage = false) : s.sendDue.MessagesInTurn :=
  ⟨s.sendDue_head, fun hd t ht => h hd t (List.dropWhile_subset _ ht)⟩

theorem State.MessagesInTurn.ask {s : State} (h : s.MessagesInTurn) {x : Transfer} (hx : x.isMessage = false) :
    (s.ask x).MessagesInTurn := by
  obtain ⟨hhead, hall⟩ := h
  refine ⟨fun t ht => ?_, fun hd t ht => ?_⟩
  · cases hts : s.transfers with
    | nil =>
      obtain rfl : x = t := by simpa [hts] using ht
      exact hx
    | cons y ys =>
      obtain rfl : y = t := by simpa [hts] using ht
      exact hhead y (by rw [hts]; rfl)
  · obtain ht | ht := List.mem_append.1 ht
    · exact hall hd t ht
    · obtain rfl : t = x := by simpa using ht
      exact hx

theorem State.MessagesInTurn.message {s : State} (h : s.MessagesInTurn) (hd : s.device ≠ .resetting) (b : Bool) :
    (s.messageOnRise b).MessagesInTurn := by
  unfold State.messageOnRise
  split_ifs
  · exact .sendDue fun hd' => absurd hd' hd
  · exact h

theorem State.MessagesInTurn.ended {s : State} (h : s.MessagesInTurn) {x : Transfer} {ts : List Transfer}
    (hts : s.transfers = x :: ts) : (s.ended ts).MessagesInTurn :=
  .sendDue fun hd t ht => h.2 hd t (by rw [hts]; exact List.mem_cons_of_mem _ ht)

theorem State.MessagesInTurn.withdraw {s : State} (h : s.MessagesInTurn) (p : Transfer → Bool) :
    (s.withdraw p).MessagesInTurn :=
  .sendDue fun hd t ht => h.2 hd t (List.mem_filter.1 ht).1

theorem State.MessagesInTurn.startHead {s : State} (h : s.MessagesInTurn) (p : Transfer → Bool) :
    (s.startHead p).MessagesInTurn := by
  obtain hs | ⟨x, xs, hts, -, -, hs⟩ := startHead_cases s p <;> rw [hs]
  · exact h
  · have hk : x.start.isMessage = x.isMessage := by cases x <;> rfl
    obtain ⟨hhead, hall⟩ := h
    rw [hts] at hhead hall
    refine ⟨fun t ht => ?_, fun hd t ht => ?_⟩
    · obtain rfl : x.start = t := by simpa using ht
      rw [hk]; exact hhead x rfl
    · obtain rfl | ht := List.mem_cons.1 ht
      · rw [hk]; exact hall hd x (by simp)
      · exact hall hd t (List.mem_cons_of_mem _ ht)

theorem State.MessagesInTurn.nextLoad {s : State} (h : s.MessagesInTurn) : s.nextLoad.MessagesInTurn := by
  unfold State.nextLoad
  split
  · exact h
  · exact State.MessagesInTurn.ask (s := { s with loader := _ }) h rfl

theorem State.MessagesInTurn.detachLoads {s : State} (h : s.MessagesInTurn) (l : Fin 16) :
    (s.detachLoads l).MessagesInTurn := by
  obtain ⟨d, hd⟩ | ⟨d, hd⟩ := detachLoads_cases s l <;> rw [hd]
  · exact h
  · exact (State.MessagesInTurn.withdraw (s := { s with loader := d }) h _).nextLoad

theorem State.MessagesInTurn.stopLoads {s : State} (h : s.MessagesInTurn) : s.stopLoads.MessagesInTurn := by
  obtain hd | hd := stopLoads_cases s <;> rw [hd]
  · exact h
  · exact (State.MessagesInTurn.withdraw (s := { s with loader := { s.loader with queue := [] } }) h _).nextLoad

/-! ### Records in flight and pending events -/

/-- The rings are placed, and each record in flight or pending has a slot that the host has returned. -/
def State.SlotsFit (s : State) : Prop :=
  (∀ q : Fin 4, s.rings[q].Ok) ∧ s.cq.Ok ∧ s.eq.ring.Ok ∧
    s.count Transfer.isCompletionWrite ≤ 1 ∧
    s.cq.occupied + s.count Transfer.isCompletionWrite ≤ s.cq.size ∧
    s.count Transfer.isEventWrite ≤ 1 ∧
    s.eq.ring.occupied + s.eq.pending.length ≤ s.eq.ring.size ∧ s.eq.lost ≤ Config.countMax

/-- The pending events as the device state has them (R161). -/
def State.PendingFits (s : State) : Prop :=
  (s.device ≠ .resetting → s.count Transfer.isEventWrite ≤ s.eq.pending.length) ∧
    (s.device = .halted ∨ s.device = .starting → s.eq.pending.length ≤ s.count Transfer.isEventWrite) ∧
    (s.device = .resetting → s.eq.pending = [])

theorem ringInv_iff (s : State) : RingInv s ↔ s.SlotsFit ∧ s.PendingFits ∧ s.MessagesInTurn := by
  constructor
  · rintro ⟨h1, h2, h3, h4, h5, h6, h7, h8, h9, h10, h11, h12, h13⟩
    exact ⟨⟨h1, h2, h3, h4, h5, h6, h8, h9⟩, ⟨h7, h10, h11⟩, h12, h13⟩
  · rintro ⟨⟨h1, h2, h3, h4, h5, h6, h8, h9⟩, ⟨h7, h10, h11⟩, h12, h13⟩
    exact ⟨h1, h2, h3, h4, h5, h6, h7, h8, h9, h10, h11, h12, h13⟩

/-- `t` has the record writes of `s` in flight. -/
def SameWrites (s t : State) : Prop :=
  t.count Transfer.isCompletionWrite = s.count Transfer.isCompletionWrite ∧
    t.count Transfer.isEventWrite = s.count Transfer.isEventWrite

theorem SameWrites.of_eq {s t : State} (h : t.transfers = s.transfers) : SameWrites s t :=
  ⟨State.count_of_eq h _, State.count_of_eq h _⟩

theorem SameWrites.ask {s : State} {x : Transfer} (hc : x.isCompletionWrite = false)
    (he : x.isEventWrite = false) : SameWrites s (s.ask x) := by
  constructor <;> simp [hc, he]

theorem SameWrites.ended {s : State} {x : Transfer} {ts : List Transfer} (hts : s.transfers = x :: ts)
    (hc : x.isCompletionWrite = false) (he : x.isEventWrite = false) : SameWrites s (s.ended ts) := by
  have h1 := State.count_ended hts (p := Transfer.isCompletionWrite) rfl
  have h2 := State.count_ended hts (p := Transfer.isEventWrite) rfl
  simp only [hc, he, Bool.false_eq_true, if_false, Nat.add_zero] at h1 h2
  exact ⟨h1, h2⟩

theorem SameWrites.trans {s t u : State} (h : SameWrites s t) (h' : SameWrites t u) : SameWrites s u :=
  ⟨h'.1.trans h.1, h'.2.trans h.2⟩

theorem SameWrites.nextLoad (s : State) : SameWrites s s.nextLoad :=
  ⟨Transfer.isCompletionWrite_lasting.count_nextLoad s, Transfer.isEventWrite_lasting.count_nextLoad s⟩

/-- The invariant reads the rings, the device state, the record writes in flight and the messages. -/
theorem RingInv.of_same {s t : State} (h : RingInv s) (hr : t.rings = s.rings) (hcq : t.cq = s.cq)
    (heq : t.eq = s.eq) (hd : t.device = s.device) (hw : SameWrites s t)
    (hm : s.MessagesInTurn → t.MessagesInTurn) : RingInv t := by
  rw [ringInv_iff] at h ⊢
  obtain ⟨hslots, hpending, hmessages⟩ := h
  unfold State.SlotsFit State.PendingFits at *
  rw [hr, hcq, heq, hd, hw.1, hw.2]
  exact ⟨hslots, hpending, hm hmessages⟩

/-- An event that the ring has room for is pending only in RUNNING (R158). -/
theorem RingInv.raise {s : State} (h : RingInv s) (e : Event) : RingInv (s.raise e) := by
  rw [ringInv_iff] at h
  obtain ⟨⟨hr, hcq, heq, hc1, hc2, he1, hroom, hlost⟩, ⟨hlow, hhigh, hnil⟩, hm⟩ := h
  obtain hs | ⟨hd, hfree, hs⟩ | hs := s.raise_cases e <;> rw [hs, ringInv_iff]
  · exact ⟨⟨hr, hcq, heq, hc1, hc2, he1, hroom, hlost⟩, ⟨hlow, hhigh, hnil⟩, hm⟩
  · refine ⟨⟨hr, hcq, heq, hc1, hc2, he1, ?_, hlost⟩, ⟨fun hd' => ?_, ?_, ?_⟩, hm⟩
    · simp only [List.length_append, List.length_singleton]
      omega
    · exact (hlow hd').trans (by simp)
    · simp [hd]
    · simp [hd]
  · exact ⟨⟨hr, hcq, heq, hc1, hc2, he1, hroom, Nat.min_le_right _ _⟩, ⟨hlow, hhigh, hnil⟩, hm⟩

theorem RingInv.setRing {s : State} (h : RingInv s) (q : Fin 4) {r : SubRing} (hr : s.rings[q].Ok → r.Ok) :
    RingInv (s.setRing q r) := by
  rw [ringInv_iff] at h ⊢
  obtain ⟨⟨hrings, hslots⟩, hpending, hm⟩ := h
  refine ⟨⟨fun q' => ?_, hslots⟩, hpending, hm⟩
  by_cases hq : q' = q
  · rw [hq, State.setRing_get_self]; exact hr (hrings q)
  · rw [State.setRing_get_ne _ _ hq]; exact hrings q'

/-- The slot after the head lies in the ring. -/
theorem SubRing.Ok.next {r : SubRing} (h : r.Ok) : SubRing.Ok { r with head := r.next } := by
  intro hoff
  obtain ⟨hsize, hbase, hhead, htail⟩ := h hoff
  refine ⟨hsize, hbase, ?_, htail⟩
  change (if r.head + 1 < r.size then r.head + 1 else 0) < r.size
  split_ifs <;> omega

theorem RingInv.intake {s u : State} (hu : Intake s u) (h : RingInv s) : RingInv u := by
  cases hu with
  | row => exact h
  | fetched q a ts hts =>
    have hend : RingInv (s.ended ts) := h.of_same rfl rfl rfl rfl (.ended hts rfl rfl) (·.ended hts)
    exact hend.setRing q fun hok => hok.next

/-- A halt keeps at most the event whose write is in flight (R150, R161). -/
theorem RingInv.halt {s : State} (h : RingInv s) (hd : s.device.writes = true) :
    RingInv { s.dropPending.ringsOff with device := .halted } := by
  rw [ringInv_iff] at h ⊢
  obtain ⟨⟨-, hcq, heq, hc1, hc2, he1, hroom, -⟩, ⟨hlow, -, -⟩, hm⟩ := h
  have hcount : s.count Transfer.isEventWrite ≤ s.eq.pending.length :=
    hlow fun hr => by simp [hr, DeviceState.writes] at hd
  have hzero : s.eventWriteInFlight = false → s.count Transfer.isEventWrite = 0 := State.count_eq_zero
  have hone : s.eventWriteInFlight = true → 1 ≤ s.count Transfer.isEventWrite := fun hf => by
    obtain ⟨x, hx, hxe⟩ := List.any_eq_true.1 hf
    exact List.countP_pos_iff.2 ⟨x, hx, hxe⟩
  have hkept : (if s.eventWriteInFlight then s.eq.pending.take 1 else []).length =
      s.count Transfer.isEventWrite := by
    cases hf : s.eventWriteInFlight with
    | false => simpa using (hzero hf).symm
    | true =>
      have := hone hf
      simp only [if_true, List.length_take]
      omega
  refine ⟨⟨fun q => ?_, hcq, heq, hc1, hc2, he1, ?_, Nat.min_le_right _ _⟩, ⟨fun _ => hkept.ge,
    fun _ => hkept.le, by simp⟩, hm.1, by simp⟩
  · intro hoff
    simp [State.ringsOff] at hoff
  · exact (Nat.add_le_add_left (hkept.le.trans hcount) _).trans hroom

theorem RingInv.setupTaken {s : State} (h : RingInv s) (hd : s.device = .starting) {bs : List Byte}
    (hp : setupPasses bs = true) (ports : Vector Port 4) :
    RingInv { s with
      device := .running, rings := Vector.ofFn fun q => (setupRing bs q).subRing, intakePointer := 3,
      cq := (setupCq bs).outRing, eq := { s.eq with ring := (setupEq bs).outRing, mask := setupMask bs },
      ports := ports } := by
  rw [ringInv_iff] at h ⊢
  obtain ⟨⟨-, -, -, hc1, -, he1, -, hlost⟩, ⟨hlow, hhigh, -⟩, hm⟩ := h
  obtain ⟨hrings, hcq, heq⟩ := setupPasses_rings hp
  have hcqsize := ringSizes_bounds hcq.1
  have heqsize := ringSizes_bounds heq.1
  have hpend := hhigh (.inr hd)
  refine ⟨⟨fun q => ?_, hcq, heq, hc1, ?_, he1, ?_, hlost⟩, ⟨fun _ => hlow (by simp [hd]), by simp, by simp⟩,
    hm.1, by simp⟩
  · simpa using hrings q
  · change 0 + s.count Transfer.isCompletionWrite ≤ (setupCq bs).outRing.size
    omega
  · change 0 + s.eq.pending.length ≤ (setupEq bs).outRing.size
    omega

/-- The part in HALTED, STARTING, RUNNING or STOPPING at a change of the device state that leaves the events. -/
theorem RingInv.setDevice {s : State} (h : RingInv s) {d : DeviceState} (hs : s.device ≠ .resetting)
    (hd : d ≠ .resetting) (hkeep : d = .halted ∨ d = .starting → s.device = .halted ∨ s.device = .starting) :
    RingInv { s with device := d } := by
  rw [ringInv_iff] at h ⊢
  obtain ⟨hslots, ⟨hlow, hhigh, -⟩, hm⟩ := h
  exact ⟨hslots, ⟨fun _ => hlow hs, fun hd' => hhigh (hkeep hd'), fun hr => absurd hr hd⟩, hm.1,
    fun hr => absurd hr hd⟩

theorem RingInv.reset {s : State} (h : RingInv s) : RingInv s.controlReset := by
  have hcw := Transfer.isCompletionWrite_lasting.count_controlReset s
  have hew := Transfer.isEventWrite_lasting.count_controlReset s
  unfold State.controlReset at *
  split_ifs at * with hd
  · exact h
  · rw [ringInv_iff] at h ⊢
    obtain ⟨⟨hr, hcq, heq, hc1, hc2, he1, hroom, -⟩, -, -⟩ := h
    unfold State.SlotsFit State.PendingFits State.MessagesInTurn
    rw [hcw, hew]
    have hstarted : ∀ t ∈ s.transfers.filter Transfer.started, t.isMessage = false := fun t ht => by
      have hst := (List.mem_filter.1 ht).2
      cases t with
      | message => cases hst
      | _ => rfl
    refine ⟨⟨hr, hcq, heq, hc1, hc2, he1, ?_, Nat.min_le_right _ _⟩, ⟨?_, ?_, fun _ => rfl⟩,
      fun t ht => hstarted t (List.mem_of_mem_head? ht), fun _ => hstarted⟩
    · exact (Nat.add_le_add_left (Nat.zero_le _) _).trans hroom
    · exact fun hd' => absurd rfl hd'
    · rintro (hd' | hd') <;> simp at hd'

theorem RingInv.clear (s : State) : RingInv s.cleared := by
  rw [ringInv_iff]
  have hring : OutRing.reset.Ok := by unfold OutRing.Ok; decide
  refine ⟨⟨fun q hoff => ?_, hring, hring, ?_, ?_, ?_, ?_, ?_⟩, ⟨?_, ?_, ?_⟩, ?_, ?_⟩ <;>
    simp_all [State.cleared, State.reset, State.count, SubRing.reset, OutRing.reset, EventRing.reset]

theorem RingInv.ended {s : State} (h : RingInv s) {x : Transfer} {ts : List Transfer}
    (hts : s.transfers = x :: ts)
    (he : x.isEventWrite = true → s.device = .resetting ∨ s.device.writes = true) : RingInv (s.ended ts) := by
  have hc := State.count_ended hts (p := Transfer.isCompletionWrite) rfl
  have hcount := State.count_ended hts (p := Transfer.isEventWrite) rfl
  rw [ringInv_iff] at h ⊢
  obtain ⟨⟨hr, hcq, heq, hc1, hc2, he1, hroom, hlost⟩, ⟨hlow, hhigh, hnil⟩, hm⟩ := h
  refine ⟨⟨hr, hcq, heq, by omega, ?_, by omega, hroom, hlost⟩, ⟨fun hd => ?_, fun hd => ?_, hnil⟩, hm.ended hts⟩
  · change s.cq.occupied + (s.ended ts).count Transfer.isCompletionWrite ≤ s.cq.size
    omega
  · have := hlow hd
    change (s.ended ts).count Transfer.isEventWrite ≤ s.eq.pending.length
    omega
  · have hw : x.isEventWrite = false := by
      by_contra hw
      obtain hd' | hd' := he (Bool.eq_true_of_not_eq_false hw)
      · obtain hh | hh := hd <;> simp [hd'] at hh
      · obtain hh | hh := hd <;> simp [DeviceState.writes, show s.device = _ from hh] at hd'
    rw [hw] at hcount
    have := hhigh hd
    change s.eq.pending.length ≤ (s.ended ts).count Transfer.isEventWrite
    simp at hcount
    omega

theorem RingInv.completionWritten {s : State} (h : RingInv s) {a : HostAddr} {bs : List Byte}
    {ts : List Transfer} (hts : s.transfers = .completionWrite a bs :: ts) :
    RingInv { s.ended ts with cq := s.cq.written } := by
  have hend := h.ended hts (by simp [Transfer.isEventWrite])
  have hc := State.count_ended hts (p := Transfer.isCompletionWrite) rfl
  rw [show (Transfer.completionWrite a bs).isCompletionWrite = true from rfl, if_pos rfl] at hc
  rw [ringInv_iff] at h hend ⊢
  obtain ⟨⟨-, hcq, -, hc1, hc2, -⟩, -⟩ := h
  obtain ⟨⟨hr, -, heq, hc1', -, he1, hroom, hlost⟩, hpending, hm⟩ := hend
  refine ⟨⟨hr, hcq.written (by omega), heq, hc1', ?_, he1, hroom, hlost⟩, hpending, hm⟩
  change s.cq.occupied + 1 + (s.ended ts).count Transfer.isCompletionWrite ≤ s.cq.size
  omega

/-- The end of an event write takes its event off the pending list; `ring` is the ring as it leaves it. -/
theorem RingInv.eventEnded {s : State} (h : RingInv s) (hd : s.device ≠ .resetting) {a : HostAddr}
    {bs : List Byte} {n : Nat} {ts : List Transfer} (hts : s.transfers = .eventWrite a bs n :: ts)
    {ring : OutRing} (hring : ring = s.eq.ring ∨ ring = s.eq.ring.written) {lost : Nat}
    (hlost : lost ≤ Config.countMax) :
    RingInv { s.ended ts with eq := { s.eq with ring := ring, pending := s.eq.pending.tail, lost := lost } } := by
  have hc := State.count_ended hts (p := Transfer.isCompletionWrite) rfl
  have he := State.count_ended hts (p := Transfer.isEventWrite) rfl
  rw [show (Transfer.eventWrite a bs n).isEventWrite = true from rfl, if_pos rfl] at he
  rw [show (Transfer.eventWrite a bs n).isCompletionWrite = false from rfl] at hc
  simp only [Bool.false_eq_true, if_false, Nat.add_zero] at hc
  rw [ringInv_iff] at h ⊢
  obtain ⟨⟨hr, hcq, heq, hc1, hc2, he1, hroom, -⟩, ⟨hlow, hhigh, -⟩, hm⟩ := h
  have hpend := hlow hd
  have htail : s.eq.pending.tail.length + 1 = s.eq.pending.length := by
    rw [List.length_tail]; omega
  have hok : ring.Ok ∧ ring.occupied ≤ s.eq.ring.occupied + 1 ∧ ring.size = s.eq.ring.size := by
    obtain rfl | rfl := hring
    · exact ⟨heq, Nat.le_succ _, rfl⟩
    · exact ⟨heq.written (by omega), le_refl _, rfl⟩
  obtain ⟨hokr, hocc, hsize⟩ := hok
  refine ⟨⟨hr, hcq, hokr, ?_, ?_, ?_, ?_, hlost⟩, ⟨fun _ => ?_, fun hd' => ?_, fun hr' => absurd hr' hd⟩,
    hm.ended hts⟩
  · exact hc.trans_le hc1
  · change s.cq.occupied + (s.ended ts).count Transfer.isCompletionWrite ≤ s.cq.size
    omega
  · change (s.ended ts).count Transfer.isEventWrite ≤ 1
    omega
  · change ring.occupied + s.eq.pending.tail.length ≤ ring.size
    omega
  · change (s.ended ts).count Transfer.isEventWrite ≤ s.eq.pending.tail.length
    omega
  · have := hhigh hd'
    change s.eq.pending.tail.length ≤ (s.ended ts).count Transfer.isEventWrite
    omega

theorem RingInv.lost_le {s : State} (h : RingInv s) : s.eq.lost ≤ Config.countMax := by
  rw [ringInv_iff] at h
  exact h.1.2.2.2.2.2.2.2

theorem RingInv.askCompletion {s : State} (h : RingInv s) (a : HostAddr) (bs : List Byte)
    (hr : s.cq.occupied < s.cq.size) (hf : s.completionWriteInFlight = false) :
    RingInv (s.ask (.completionWrite a bs)) := by
  have h0 : s.count Transfer.isCompletionWrite = 0 := State.count_eq_zero hf
  rw [ringInv_iff] at h ⊢
  obtain ⟨⟨hrings, hcq, heq, -, -, he1, hroom, hlost⟩, ⟨hlow, hhigh, hnil⟩, hm⟩ := h
  refine ⟨⟨hrings, hcq, heq, ?_, ?_, ?_, hroom, hlost⟩, ⟨fun hd => ?_, fun hd => ?_, hnil⟩, hm.ask rfl⟩
  all_goals rw [State.count_ask]
  · rw [h0]; rfl
  · rw [h0]; exact hr
  · exact he1
  · exact hlow hd
  · exact hhigh hd

theorem RingInv.askEvent {s : State} (h : RingInv s) (a : HostAddr) (bs : List Byte) (n : Nat)
    (hd : s.device.writes = true) (hp : s.eq.pending ≠ []) (hf : s.eventWriteInFlight = false) :
    RingInv (s.ask (.eventWrite a bs n)) := by
  have h0 : s.count Transfer.isEventWrite = 0 := State.count_eq_zero hf
  have hpos : 0 < s.eq.pending.length := List.length_pos_of_ne_nil hp
  rw [ringInv_iff] at h ⊢
  obtain ⟨⟨hrings, hcq, heq, hc1, hc2, -, hroom, hlost⟩, ⟨-, -, hnil⟩, hm⟩ := h
  refine ⟨⟨hrings, hcq, heq, ?_, ?_, ?_, hroom, hlost⟩, ⟨fun _ => ?_, fun hd' => ?_, hnil⟩, hm.ask rfl⟩
  · rw [State.count_ask]; exact hc1
  · rw [State.count_ask]; exact hc2
  · rw [State.count_ask, h0]; rfl
  · rw [State.count_ask, h0]; exact hpos
  · obtain hh | hh := hd' <;> simp [DeviceState.writes, show s.device = _ from hh] at hd

theorem RingInv.giveBackCq {s : State} (h : RingInv s) {n : Nat} {r : OutRing} (hr : s.cq.giveBack n = some r) :
    RingInv { s with cq := r } := by
  rw [ringInv_iff] at h ⊢
  obtain ⟨⟨hrings, hcq, heq, hc1, hc2, he1, hroom, hlost⟩, hpending, hm⟩ := h
  have hok := hcq.giveBack hr
  obtain ⟨-, -, rfl⟩ := OutRing.giveBack_eq_some hr
  exact ⟨⟨hrings, hok, heq, hc1, (Nat.add_le_add_right (Nat.sub_le _ _) _).trans hc2, he1, hroom, hlost⟩,
    hpending, hm⟩

theorem RingInv.giveBackEq {s : State} (h : RingInv s) {n : Nat} {r : OutRing}
    (hr : s.eq.ring.giveBack n = some r) : RingInv { s with eq := { s.eq with ring := r } } := by
  rw [ringInv_iff] at h ⊢
  obtain ⟨⟨hrings, hcq, heq, hc1, hc2, he1, hroom, hlost⟩, hpending, hm⟩ := h
  have hok := heq.giveBack hr
  obtain ⟨-, -, rfl⟩ := OutRing.giveBack_eq_some hr
  exact ⟨⟨hrings, hcq, hok, hc1, hc2, he1, (Nat.add_le_add_right (Nat.sub_le _ _) _).trans hroom, hlost⟩,
    hpending, hm⟩

theorem Change.keeps_rings {s t : State} (hc : Change s t) (h : RingInv s) : RingInv t := by
  have hcw := Transfer.isCompletionWrite_lasting
  have hew := Transfer.isEventWrite_lasting
  cases hc with
  | registers t ht => rw [ht]; exact h
  | message b hd =>
    exact h.of_same (by simp) (by simp) (by simp) (by simp)
      ⟨State.count_messageOnRise s b rfl, State.count_messageOnRise s b rfl⟩ (·.message hd b)
  | event e => exact h.raise e
  | finish c =>
    exact h.of_same (by simp) (by simp) (by simp) (by simp) (.of_eq (by simp)) (by simp [State.MessagesInTurn])
  | enter u e hu => exact (h.intake hu : RingInv u)
  | enterFinished u e hu => exact (h.intake hu : RingInv u)
  | refuseRecord u hu => exact (h.intake hu : RingInv u)
  | popFinished => unfold State.popFinished; split <;> exact h
  | startHead p =>
    refine h.of_same ?_ ?_ ?_ ?_ ⟨hcw.count_startHead s p, hew.count_startHead s p⟩ (·.startHead p)
    all_goals obtain hs | ⟨x, xs, -, -, -, hs⟩ := startHead_cases s p <;> rw [hs]
  | withdrawReports =>
    exact h.of_same rfl rfl rfl rfl ⟨hcw.count_withdraw s _, hew.count_withdraw s _⟩ (·.withdraw _)
  | askFetch q a =>
    exact h.of_same rfl rfl rfl rfl (.ask (s := { s with intakePointer := q }) rfl rfl)
      fun hm => State.MessagesInTurn.ask (s := { s with intakePointer := q }) hm rfl
  | askReport => exact h.of_same rfl rfl rfl rfl (.ask rfl rfl) (·.ask rfl)
  | askCompletion a bs hr hf => exact h.askCompletion a bs hr hf
  | askEvent a bs n hd hp hf => exact h.askEvent a bs n hd hp hf
  | ended x ts hts hb he => exact h.ended hts he
  | completionWritten a bs ts hts => exact h.completionWritten hts
  | eventWritten a bs n ts hts hd =>
    exact h.eventEnded hd hts (.inr rfl) ((Nat.sub_le _ _).trans h.lost_le)
  | eventLost a bs n ts hts hd => exact h.eventEnded hd hts (.inl rfl) (Nat.min_le_right _ _)
  | start a hd =>
    have h' : RingInv { s with device := .starting } := h.setDevice (by simp [hd]) (by decide) fun _ => .inl hd
    exact h'.of_same rfl rfl rfl rfl (.ask rfl rfl) (·.ask rfl)
  | startFailed hd => exact h.setDevice (by simp [hd]) (by decide) fun _ => .inr hd
  | stopping hd => exact h.setDevice (by simp [hd]) (by decide) (by simp)
  | setupTaken bs hd hp => exact h.setupTaken hd hp _
  | halt hd => exact h.halt hd
  | reset => exact h.reset
  | clear => exact RingInv.clear s
  | ring q r hr => exact h.setRing q hr
  | returnCq n r hr => exact h.giveBackCq hr
  | returnEq n r hr => exact h.giveBackEq hr
  | detachLoads l =>
    refine h.of_same ?_ ?_ ?_ ?_ ⟨hcw.count_detachLoads s l, hew.count_detachLoads s l⟩ (·.detachLoads l)
    all_goals obtain ⟨d, hd⟩ | ⟨d, hd⟩ := detachLoads_cases s l <;> simp [hd, State.endLoad]
  | stopLoads =>
    refine h.of_same ?_ ?_ ?_ ?_ ⟨hcw.count_stopLoads s, hew.count_stopLoads s⟩ (·.stopLoads)
    all_goals obtain hd | hd := stopLoads_cases s <;> simp [hd, State.endLoad]
  | startLoad q =>
    exact h.of_same (by simp) (by simp) (by simp) (by simp) (.nextLoad _)
      fun hm => State.MessagesInTurn.nextLoad (s := { s with loader := { s.loader with queue := [q] } }) hm
  | commitEnded load =>
    exact h.of_same (by simp) (by simp) (by simp) (by simp) (.nextLoad _) (·.nextLoad)
  | blockDropped a ts hts =>
    exact h.of_same (by simp) (by simp) (by simp) (by simp)
      ((SameWrites.ended hts rfl rfl).trans (.nextLoad { s.ended ts with loader := _ }))
      fun hm => State.MessagesInTurn.nextLoad (s := { s.ended ts with loader := _ }) (hm.ended hts)
  | loadEnded a ts hts =>
    exact h.of_same (by simp) (by simp) (by simp) (by simp)
      ((SameWrites.ended hts rfl rfl).trans (.nextLoad _)) fun hm => (hm.ended hts).nextLoad
  | chainWhole a ts hts =>
    exact h.of_same rfl rfl rfl rfl (.ended hts rfl rfl) (·.ended hts)
  | askBlock a next ts hts hd load hx hp bs st =>
    exact h.of_same rfl rfl rfl rfl
      ((SameWrites.ended hts rfl rfl).trans (.ask (s := s.ended ts) (x := .blockRead next false) rfl rfl))
      fun hm => State.MessagesInTurn.ask (s := { s.ended ts with loader := _ }) (hm.ended hts) rfl
  | _ => exact h

end Sys2Proof.Machine
end

section
/-! What the happenings at a lane keep of its contents: image and options (spec/01), cal layers (spec/06),
watches (spec/05) and counts. -/

namespace Sys2Proof.Machine

/-! ### Entries (Table 1-3, Table 1-4) -/

theorem Entry.ok_reset (o : LayerOrder) : Entry.reset.Ok o := by
  cases o <;> simp [Entry.Ok, Entry.Fits, Entry.reset, layered]

theorem Entry.rederive_none {e : Entry} (h : e.intended = none) :
    e.rederive = { e with applied := none, state := .unmanaged, refusal := none } := by
  simp only [Entry.rederive, h]

theorem Entry.rederive_clean {e : Entry} (hi : e.intended ≠ none) (h : e.applied = e.intended) :
    e.rederive = { e with state := .clean, refusal := none } := by
  obtain ⟨v, hv⟩ := Option.ne_none_iff_exists'.1 hi
  rw [hv] at h
  simp only [Entry.rederive, hv, h, if_true]

theorem Entry.rederive_dirty {e : Entry} (hi : e.intended ≠ none) (h : e.applied ≠ e.intended) :
    e.rederive = { e with state := .dirty, refusal := none } := by
  obtain ⟨v, hv⟩ := Option.ne_none_iff_exists'.1 hi
  rw [hv] at h
  simp only [Entry.rederive, hv, h, if_false]

/-- Re-derivation of an entry with no write in progress meets Table 1-3. -/
theorem Entry.rederive_ok {e : Entry} {o : LayerOrder} (hv : e.intended = layered o e.base e.hold e.cal)
    (hf : e.inFlight = none) (ha : e.attempts = 0) : e.rederive.Ok o := by
  by_cases hi : e.intended = none
  · rw [Entry.rederive_none hi]
    exact ⟨hv, ⟨hi, rfl⟩, fun _ => ⟨hf, ha⟩, by simp [ha], by simp⟩
  have hsome := Option.isSome_iff_ne_none.2 hi
  by_cases happ : e.applied = e.intended
  · rw [Entry.rederive_clean hi happ]
    exact ⟨hv, ⟨hsome, happ⟩, fun _ => ⟨hf, ha⟩, by simp [ha], by simp⟩
  · rw [Entry.rederive_dirty hi happ]
    exact ⟨hv, ⟨hsome, happ⟩, fun _ => ⟨hf, ha⟩, by simp [ha], by simp⟩

theorem Entry.rederive_layers (e : Entry) :
    e.rederive.base = e.base ∧ e.rederive.hold = e.hold ∧ e.rederive.cal = e.cal := by
  unfold Entry.rederive
  split
  · exact ⟨rfl, rfl, rfl⟩
  · split_ifs <;> exact ⟨rfl, rfl, rfl⟩

@[simp] theorem Entry.rederive_cal (e : Entry) : e.rederive.cal = e.cal := e.rederive_layers.2.2

@[simp] theorem Entry.setLayers_cal (e : Entry) (o : LayerOrder) (b h c : Option Byte) :
    (e.setLayers o b h c).cal = c := by
  unfold Entry.setLayers Entry.reintend
  split_ifs <;> simp

/-- New layers, under whatever layer order, meet Table 1-3 (R6, R8). -/
theorem Entry.Ok.setLayers {e : Entry} {old : LayerOrder} (he : e.Ok old) (o : LayerOrder)
    (b h c : Option Byte) : (e.setLayers o b h c).Ok o := by
  obtain ⟨-, hfits, hclear, hatt, href⟩ := he
  unfold Entry.setLayers Entry.reintend
  split_ifs with hv hp
  · exact ⟨hv, hfits, hclear, hatt, href⟩
  · simp only [Entry.Fits, show e.state = .pending from hp] at hfits
    refine ⟨rfl, ?_, fun hn => absurd hp hn, hatt, href⟩
    simpa only [Entry.Fits, show e.state = .pending from hp] using hfits
  · obtain ⟨hf, ha⟩ := hclear hp
    exact Entry.rederive_ok rfl hf ha

@[simp] theorem Entry.endWrite_cal (e : Entry) (v : Option Byte) : (e.endWrite v).cal = e.cal := by
  simp [Entry.endWrite]

theorem Entry.Ok.endWrite {e : Entry} {o : LayerOrder} (he : e.Ok o) (v : Option Byte) : (e.endWrite v).Ok o :=
  Entry.rederive_ok he.1 rfl rfl

@[simp] theorem Entry.endRefused_cal (e : Entry) (v : Option Byte) (r : RefusalReason) :
    (e.endRefused v r).cal = e.cal := by
  unfold Entry.endRefused
  split_ifs <;> simp

theorem Entry.Ok.endRefused {e : Entry} {o : LayerOrder} (he : e.Ok o) (hp : e.state = .pending)
    (v : Option Byte) (r : RefusalReason) : (e.endRefused v r).Ok o := by
  unfold Entry.endRefused
  split_ifs with hi
  · have hfits := he.2.1
    simp only [Entry.Fits, hp] at hfits
    exact ⟨he.1, by simpa only [Entry.Fits, hi] using hfits, fun _ => ⟨rfl, rfl⟩, Nat.zero_le _, by simp⟩
  · exact he.endWrite v

theorem Entry.Ok.attempt {e : Entry} {o : LayerOrder} (he : e.Ok o) (hp : e.state = .pending) {n : Nat}
    (ha : e.attempts < n) (hn : n ≤ 3) : e.attempt.Ok o := by
  obtain ⟨hv, hfits, -, -, href⟩ := he
  exact ⟨hv, hfits, fun h => absurd hp h, Nat.le_trans ha hn, href⟩

theorem Entry.Ok.grant {e : Entry} {o : LayerOrder} (he : e.Ok o) (hd : e.state = .dirty) : e.grant.Ok o := by
  obtain ⟨hv, hfits, -, -, href⟩ := he
  simp only [Entry.Fits, hd] at hfits
  refine ⟨hv, hfits.1, fun h => absurd rfl h, Nat.zero_le _, ?_⟩
  simpa [Entry.grant, hd] using href

/-! What a direct outcome shows of the applied value (R14), state by state. -/

theorem Entry.learn_nothing {e : Entry} {v : Option Byte} (h : e.intended = none ∨ e.applied = v) :
    e.learn v = e := if_pos (h.imp_left fun h => by simp [Entry.managed, h])

theorem Entry.learn_of {e : Entry} {v : Option Byte} (hi : e.intended ≠ none) (hv : e.applied ≠ v) :
    e.learn v =
      match e.state with
      | .unmanaged => e
      | .pending => { e with applied := v }
      | .clean | .dirty => Entry.rederive { e with applied := v }
      | .refused =>
        if e.intended = v then { e with applied := v, state := .clean, refusal := none }
        else { e with applied := v } := by
  have hm : ¬ (e.managed = false ∨ e.applied = v) := by
    simp [Entry.managed, hv, Option.isSome_iff_ne_none.2 hi]
  exact if_neg hm

/-- Whatever a direct outcome shows, the layers stay, and Table 1-3 stays true (R14). -/
theorem Entry.learn_cal_ok (e : Entry) (v : Option Byte) :
    (e.learn v).cal = e.cal ∧ ∀ o, e.Ok o → (e.learn v).Ok o := by
  by_cases hn : e.intended = none ∨ e.applied = v
  · rw [Entry.learn_nothing hn]; exact ⟨rfl, fun _ => id⟩
  obtain ⟨hi, hv⟩ := not_or.1 hn
  have hsome := Option.isSome_iff_ne_none.2 hi
  rw [Entry.learn_of hi hv]
  cases hs : e.state <;> simp only
  case unmanaged => exact ⟨trivial, fun _ => id⟩
  case pending =>
    refine ⟨trivial, fun o ⟨hlay, hfits, hclear, hatt, href⟩ => ?_⟩
    rw [hs] at href hclear
    exact ⟨hlay, by simpa only [Entry.Fits, hs] using hfits, fun h => absurd rfl h, hatt, href⟩
  case refused =>
    split_ifs with he
    · refine ⟨rfl, fun o ⟨hlay, hfits, hclear, hatt, href⟩ => ?_⟩
      exact ⟨hlay, ⟨hsome, he.symm⟩, fun _ => hclear (by simp [hs]), hatt, by simp⟩
    · refine ⟨rfl, fun o ⟨hlay, hfits, hclear, hatt, href⟩ => ?_⟩
      rw [hs] at href hclear
      exact ⟨hlay, hsome, fun _ => hclear (by simp), hatt, href⟩
  all_goals
    refine ⟨Entry.rederive_cal _, fun o ⟨hlay, hfits, hclear, hatt, href⟩ => ?_⟩
    obtain ⟨hf, ha⟩ := hclear (by simp [hs])
    exact Entry.rederive_ok hlay hf ha

@[simp] theorem Entry.learn_cal (e : Entry) (v : Option Byte) : (e.learn v).cal = e.cal := (e.learn_cal_ok v).1

theorem Entry.Ok.learn {e : Entry} {o : LayerOrder} (he : e.Ok o) (v : Option Byte) : (e.learn v).Ok o :=
  (e.learn_cal_ok v).2 o he

@[simp] theorem Entry.rebuild_cal (e : Entry) : e.rebuild.cal = e.cal := by
  unfold Entry.rebuild
  split <;> rfl

theorem Entry.Ok.rebuild {e : Entry} {o : LayerOrder} (he : e.Ok o) : e.rebuild.Ok o := by
  obtain ⟨hv, hfits, hclear, hatt, href⟩ := he
  unfold Entry.rebuild
  split
  · exact ⟨hv, hfits, hclear, hatt, href⟩
  · rename_i v hi hs
    refine ⟨hv, ?_, fun h => absurd hs h, hatt, href⟩
    simpa only [Entry.Fits, hs] using hfits
  · rename_i v hi hs
    exact ⟨hv, ⟨by simp [hi], by simp [hi]⟩, fun _ => hclear hs, hatt, by simp⟩

/-! ### Reading an image after a rebuild -/

theorem Image.get_rebuild (im : Image) {a : Nat} (h : a ∈ addresses) : im.rebuild.get a = (im.get a).rebuild := by
  have h' := mem_addresses.1 h
  simp only [Image.rebuild, Image.get, entryAt_of h', Vector.getElem_ofFn, Fin.getElem_fin]

theorem Image.rebuild_queue (im : Image) : im.rebuild.queue = addresses.filter (dirtyAt im.rebuild.entries) := by
  simp only [Image.rebuild]

theorem Image.rebuild_queueExact (im : Image) : im.rebuild.QueueExact := by
  unfold Image.QueueExact
  rw [Image.rebuild_queue]
  refine ⟨addresses_nodup.filter _, fun _ ha => (List.mem_filter.1 ha).1, fun a ha => ?_⟩
  rw [List.mem_filter, dirtyAt_get, decide_eq_true_eq]
  exact and_iff_right ha

theorem Image.get_reset (a : Nat) : Image.reset.get a = Entry.reset := by
  by_cases h : a ∈ addresses
  · rw [Image.get, entryAt_of (mem_addresses.1 h)]
    simp [Image.reset]
  · exact Image.get_out _ h

theorem Image.reset_queueExact : Image.reset.QueueExact := by
  refine ⟨List.nodup_nil, fun a ha => absurd ha (List.not_mem_nil), fun a _ => ?_⟩
  rw [Image.get_reset]
  exact ⟨fun ha => absurd ha (List.not_mem_nil), fun hd => by simp [Entry.reset] at hd⟩

/-! ### Contents of a lane -/

/-- The image and options of a lane as chapters 1 and 3 keep them, whatever its state. -/
def Lane.ImageFits (L : Lane) : Prop :=
  L.image.QueueExact ∧ (∀ a ∈ addresses, (L.image.get a).Ok L.options.layerOrder) ∧ L.options.Ranged

/-- The counts of a lane stay at their ends (R54, R97). -/
def Lane.CountsFit (L : Lane) : Prop := L.restartCount ≤ Config.restartMax ∧ L.overrunCount ≤ Config.countMax

/-- A lane's contents in `M` are kept as well as they were in `L`. -/
def Lane.Keeps (L M : Lane) : Prop :=
  (L.ImageFits → M.ImageFits) ∧ (L.CalOk → M.CalOk) ∧ (L.WatchesOk → M.WatchesOk) ∧
    (L.CountsFit → M.CountsFit)

theorem Lane.Keeps.refl (L : Lane) : L.Keeps L := ⟨id, id, id, id⟩

theorem Lane.Keeps.trans {L M N : Lane} (h : L.Keeps M) (h' : M.Keeps N) : L.Keeps N :=
  ⟨h'.1 ∘ h.1, h'.2.1 ∘ h.2.1, h'.2.2.1 ∘ h.2.2.1, h'.2.2.2 ∘ h.2.2.2⟩

/-- The cal layers in one equation: each is what a recall at the index gives (R115). -/
theorem Lane.calOk_iff (L : Lane) :
    L.CalOk ↔ ColumnsOk L.table ∧ ∀ a ∈ addresses, (L.image.get a).cal = calAt L.table L.index a := by
  unfold Lane.CalOk
  refine and_congr_right fun hcols => forall₂_congr fun a _ => ?_
  cases hi : L.index with
  | none => simp
  | some i =>
    simp only
    constructor
    · rintro ⟨hsome, hnone⟩
      by_cases hc : ∃ c ∈ L.table, c.target = a
      · obtain ⟨c, hc, rfl⟩ := hc
        rw [hsome c hc rfl, calAt_of_column hcols.1 hc]
      · have hc' : ∀ c ∈ L.table, c.target ≠ a := fun c hm he => hc ⟨c, hm, he⟩
        rw [hnone hc', calAt_of_no_column hc']
    · intro h
      refine ⟨fun c hc he => ?_, fun hc => ?_⟩
      · rw [h, ← he, calAt_of_column hcols.1 hc]
      · rw [h, calAt_of_no_column hc]

/-- A change of nothing that these statements read. -/
theorem Lane.Keeps.of_contents {L M : Lane} (him : M.image = L.image) (ho : M.options = L.options)
    (hw : M.watches = L.watches) (hi : M.index = L.index) (ht : M.table = L.table)
    (hr : M.restartCount = L.restartCount) (hc : M.overrunCount = L.overrunCount) : L.Keeps M := by
  unfold Lane.Keeps Lane.ImageFits Lane.CalOk Lane.WatchesOk Lane.CountsFit
  rw [him, ho, hw, hi, ht, hr, hc]
  exact ⟨id, id, id, id⟩

theorem Lane.watchesOk_congr {L M : Lane} (h : M.watches = L.watches) : L.WatchesOk → M.WatchesOk := by
  unfold Lane.WatchesOk
  rw [h]
  exact fun hw => hw

theorem Lane.countsFit_congr {L M : Lane} (hr : M.restartCount = L.restartCount)
    (hc : M.overrunCount = L.overrunCount) : L.CountsFit → M.CountsFit := by
  unfold Lane.CountsFit
  rw [hr, hc]
  exact fun h => h

/-- A happening at the entries that keeps the cal layers and Table 1-3. -/
theorem Lane.Keeps.entries {L : Lane} (f : Nat → Entry → Entry)
    (hcal : ∀ a ∈ addresses, (f a (L.image.get a)).cal = (L.image.get a).cal)
    (hok : L.ImageFits → ∀ a ∈ addresses, (f a (L.image.get a)).Ok L.options.layerOrder) :
    L.Keeps { L with image := L.image.mapEntries f } := by
  refine ⟨fun h => ⟨h.1.mapEntries f, fun a ha => ?_, h.2.2⟩, fun h => ?_, Lane.watchesOk_congr rfl, Lane.countsFit_congr rfl rfl⟩
  · rw [Image.get_mapEntries _ _ ha]; exact hok h a ha
  · rw [Lane.calOk_iff] at h ⊢
    refine ⟨h.1, fun a ha => ?_⟩
    rw [Image.get_mapEntries _ _ ha, hcal a ha]
    exact h.2 a ha

/-- A happening at one entry. -/
theorem Lane.Keeps.entry {L : Lane} (a : Nat) (f : Entry → Entry) (hcal : (f (L.image.get a)).cal = (L.image.get a).cal)
    (hok : L.ImageFits → a ∈ addresses → (f (L.image.get a)).Ok L.options.layerOrder) :
    L.Keeps { L with image := L.image.modify a f } := by
  refine Lane.Keeps.entries _ (fun b _ => ?_) fun h b hb => ?_
  · split_ifs with hba
    · rw [hba]; exact hcal
    · rfl
  · split_ifs with hba
    · subst hba; exact hok h hb
    · exact h.2.1 b hb

theorem Lane.Keeps.cutShort (L : Lane) : L.Keeps { L with image := L.image.cutShort } := by
  refine Lane.Keeps.entries _ (fun a _ => ?_) fun h a ha => ?_
  · split_ifs <;> simp
  · split_ifs
    · exact (h.2.1 a ha).endWrite none
    · exact h.2.1 a ha

theorem Lane.Keeps.rebuild (L : Lane) : L.Keeps { L with image := L.image.rebuild } := by
  refine ⟨fun h => ⟨Image.rebuild_queueExact _, fun a ha => ?_, h.2.2⟩, fun h => ?_, Lane.watchesOk_congr rfl, Lane.countsFit_congr rfl rfl⟩
  · rw [Image.get_rebuild _ ha]; exact (h.2.1 a ha).rebuild
  · rw [Lane.calOk_iff] at h ⊢
    refine ⟨h.1, fun a ha => ?_⟩
    rw [Image.get_rebuild _ ha, Entry.rebuild_cal]
    exact h.2 a ha

theorem Image.QueueExact.recall {im : Image} (h : im.QueueExact) (o : LayerOrder) (t : List Column)
    (i : Option (Fin 32)) : (im.recall o t i).QueueExact := h.mapEntries _

/-- A recall of a table of the lane at whatever index. -/
theorem Lane.Keeps.recall (L : Lane) (t : List Column) (i : Option (Fin 32)) (ht : ColumnsOk L.table → ColumnsOk t) :
    L.Keeps { L with table := t, index := i, image := L.image.recall L.options.layerOrder t i } := by
  refine ⟨fun h => ⟨h.1.recall _ t i, fun a ha => ?_, h.2.2⟩, fun h => ?_, Lane.watchesOk_congr rfl, Lane.countsFit_congr rfl rfl⟩
  · rw [Image.get_recall _ _ _ _ ha]; exact (h.2.1 a ha).setLayers _ _ _ _
  · rw [Lane.calOk_iff] at h ⊢
    exact ⟨ht h.1, fun a ha => by rw [Image.get_recall _ _ _ _ ha, Entry.setLayers_cal]⟩

/-! ### Watches (R90) -/

/-- At most one temperature source means that any two are one. -/
theorem sourceCount_le_one_iff (ws : Vector Watch 8) :
    sourceCount ws ≤ 1 ↔
      ∀ i j : Fin 8, ws[i].tempSource = true → ws[j].tempSource = true → i = j := by
  have hlist : ws.toList = (List.finRange 8).map fun i => ws[i] := by
    apply List.ext_getElem <;> simp
  have hcard : sourceCount ws = (Finset.univ.filter fun i : Fin 8 => ws[i].tempSource = true).card := by
    unfold sourceCount
    rw [hlist, List.filter_map, List.length_map, ← List.toFinset_card_of_nodup ((List.nodup_finRange 8).filter _)]
    congr 1
    ext i
    simp
  rw [hcard, Finset.card_le_one]
  simp only [Finset.mem_filter, Finset.mem_univ, true_and]
  exact ⟨fun h i j hi hj => h i hi j hj, fun h i hi j hj => h i j hi hj⟩

theorem Lane.watchesOk_iff (L : Lane) :
    L.WatchesOk ↔ (∀ i : Fin 8, L.watches[i].Ok) ∧
      ∀ i j : Fin 8, L.watches[i].tempSource = true → L.watches[j].tempSource = true → i = j := by
  unfold Lane.WatchesOk
  rw [sourceCount_le_one_iff]

/-- Watches that keep their settings, or lose them. -/
theorem Lane.Keeps.watches {L : Lane} (ws : Vector Watch 8)
    (h : ∀ i : Fin 8, (L.watches[i].Ok → ws[i].Ok) ∧ ws[i].tempSource = L.watches[i].tempSource) :
    L.Keeps { L with watches := ws } := by
  refine ⟨id, id, fun hw => ?_, id⟩
  rw [Lane.watchesOk_iff] at hw ⊢
  refine ⟨fun i => (h i).1 (hw.1 i), fun i j hi hj => ?_⟩
  rw [(h i).2] at hi
  rw [(h j).2] at hj
  exact hw.2 i j hi hj

theorem vector_set_get_ne {α : Type} {n : Nat} (v : Vector α n) {i j : Fin n} (x : α) (h : j ≠ i) :
    (v.set i x)[j] = v[j] := by
  have h' : (i : Nat) ≠ j := fun e => h (Fin.ext e.symm)
  simp [h']

theorem vector_set_get_self {α : Type} {n : Nat} (v : Vector α n) (i : Fin n) (x : α) : (v.set i x)[i] = x := by
  simp

/-- One watch keeps its settings. -/
theorem Lane.Keeps.watch {L : Lane} (i : Fin 8) (w : Watch)
    (h : (L.watches[i].Ok → w.Ok) ∧ w.tempSource = L.watches[i].tempSource) :
    L.Keeps { L with watches := L.watches.set i w } := by
  refine Lane.Keeps.watches _ fun j => ?_
  by_cases hj : j = i
  · rw [hj, vector_set_get_self]; exact h
  · rw [vector_set_get_ne _ _ hj]; exact ⟨id, rfl⟩

theorem Watch.ok_reset : Watch.reset.Ok := by simp [Watch.Ok, Watch.reset, pairInOrder]

/-- A record that passes its checks sets a watch as R90 has it. -/
theorem Watch.ok_of_readWatch {r : WatchRecord} {i : Fin 8} {w : Watch} (h : readWatch r = some (i, w)) : w.Ok := by
  unfold readWatch at h
  split_ifs at h with h1 h2 h3
  · obtain ⟨-, rfl⟩ := Prod.mk.inj (Option.some.inj h)
    exact Watch.ok_reset
  · obtain ⟨-, rfl⟩ := Prod.mk.inj (Option.some.inj h)
    have hok := h3.2
    simp only [recordOk, Bool.and_eq_true, decide_eq_true_eq, Bool.or_eq_true, Bool.not_eq_true'] at hok
    obtain ⟨⟨⟨haddr, halarm⟩, hwarn⟩, htemp⟩ := hok
    refine ⟨haddr, halarm, hwarn, fun ht => ?_⟩
    obtain hf | hs := htemp
    · rw [hf] at ht; cases ht
    · exact hs

theorem mem_watchIndices (i : Fin 8) : i ∈ watchIndices := by
  revert i; decide

theorem otherSource_eq_false {ws : Vector Watch 8} {i : Fin 8} (h : otherSource ws i = false) :
    ∀ j : Fin 8, j ≠ i → ws[j].tempSource = false := by
  intro j hj
  have := List.any_eq_false.1 h j (mem_watchIndices j)
  simpa [hj] using this

theorem Lane.Keeps.replaceWatch {L : Lane} {o : Option Tx} {i : Fin 8} {w : Watch} (hok : w.Ok)
    (hw : ¬ (w.tempSource = true ∧ otherSource L.watches i = true)) : L.Keeps (L.replaceWatch o i w) := by
  refine ⟨id, id, fun h => ?_, id⟩
  rw [Lane.watchesOk_iff] at h ⊢
  have hself : (L.replaceWatch o i w).watches[i] = w := vector_set_get_self _ _ _
  have hne (j : Fin 8) (hj : j ≠ i) : (L.replaceWatch o i w).watches[j] = L.watches[j] :=
    vector_set_get_ne _ _ hj
  have hother (ht : w.tempSource = true) : ∀ j : Fin 8, j ≠ i → L.watches[j].tempSource = false :=
    otherSource_eq_false (Bool.eq_false_of_not_eq_true fun hs => hw ⟨ht, hs⟩)
  refine ⟨fun j => ?_, fun j k hj hk => ?_⟩
  · by_cases hji : j = i
    · rw [hji, hself]; exact hok
    · rw [hne j hji]; exact h.1 j
  · by_cases hji : j = i <;> by_cases hki : k = i
    · rw [hji, hki]
    · subst hji
      rw [hself] at hj
      rw [hne k hki, hother hj k hki] at hk
      cases hk
    · subst hki
      rw [hself] at hk
      rw [hne j hji, hother hk j hji] at hj
      cases hj
    · rw [hne j hji] at hj
      rw [hne k hki] at hk
      exact h.2 j k hj hk

/-! ### The reset lane -/

theorem Lane.imageFits_reset : Lane.reset.ImageFits :=
  ⟨Image.reset_queueExact, fun a _ => by rw [show Lane.reset.image = Image.reset from rfl, Image.get_reset]; exact Entry.ok_reset _,
    by simp [Options.Ranged, Lane.reset, Options.default]⟩

theorem Lane.calOk_reset : Lane.reset.CalOk := by
  rw [Lane.calOk_iff]
  refine ⟨⟨by simp [Lane.reset], by simp [Lane.reset], by simp [Lane.reset]⟩, fun a _ => ?_⟩
  rw [show Lane.reset.image = Image.reset from rfl, Image.get_reset]
  rfl

theorem Lane.watchesOk_reset : Lane.reset.WatchesOk := by
  rw [Lane.watchesOk_iff]
  have hw (i : Fin 8) : Lane.reset.watches[i] = Watch.reset := by simp [Lane.reset]
  refine ⟨fun i => by rw [hw]; exact Watch.ok_reset, fun i j hi => ?_⟩
  rw [hw] at hi
  simp [Watch.reset] at hi

theorem Lane.countsFit_reset : Lane.reset.CountsFit := ⟨Nat.zero_le _, Nat.zero_le _⟩

theorem Lane.Keeps.reset (L : Lane) : L.Keeps Lane.reset :=
  ⟨fun _ => Lane.imageFits_reset, fun _ => Lane.calOk_reset, fun _ => Lane.watchesOk_reset,
    fun _ => Lane.countsFit_reset⟩

/-! ### Options (Table 3-3) -/

theorem optionByte_bound {raw : Byte} {keep x top : Nat} (hk : keep ≤ top)
    (h : optionByte raw keep (upTo top) = some x) : x ≤ top := by
  unfold optionByte upTo at h
  split_ifs at h
  · obtain rfl := Option.some.inj h; exact hk
  · obtain rfl := Option.some.inj h; assumption

/-- Options over options in range are in range (R173). -/
theorem Options.Ranged.over {keep x : Options} {b : OptionBlock} (hk : keep.Ranged)
    (h : optionsOver keep b = some x) : x.Ranged := by
  unfold optionsOver at h
  split at h
  · rename_i p r v lo hy m al wl ie hp hr _ _ hh _ _ _ _
    obtain rfl := Option.some.inj h
    refine ⟨?_, optionByte_bound hk.2.1 hr, optionByte_bound hk.2.2 hh⟩
    unfold pollPeriodField at hp
    split_ifs at hp
    · obtain rfl := Option.some.inj hp; exact hk.1
    · obtain rfl := Option.some.inj hp; assumption
  · cases h

theorem Lane.Keeps.setOptions {L : Lane} {x : Options} (hx : L.options.Ranged → x.Ranged) :
    L.Keeps (L.setOptions x) := by
  by_cases ho : x.layerOrder = L.options.layerOrder
  · have him : (L.setOptions x).image = L.image := if_pos ho
    refine ⟨fun h => ?_, fun h => ?_, Lane.watchesOk_congr rfl, Lane.countsFit_congr rfl rfl⟩
    · exact ⟨him ▸ h.1, fun a ha => by rw [him, show (L.setOptions x).options = x from rfl, ho]; exact h.2.1 a ha,
        hx h.2.2⟩
    · rw [Lane.calOk_iff] at h ⊢
      rw [him]
      exact h
  · have him : (L.setOptions x).image = L.image.reorder x.layerOrder := if_neg ho
    have hget (a : Nat) (ha : a ∈ addresses) : (L.setOptions x).image.get a =
        (L.image.get a).setLayers x.layerOrder (L.image.get a).base (L.image.get a).hold (L.image.get a).cal := by
      rw [him]; exact Image.get_mapEntries _ _ ha
    refine ⟨fun h => ⟨him ▸ h.1.mapEntries _, fun a ha => ?_, hx h.2.2⟩, fun h => ?_, Lane.watchesOk_congr rfl, Lane.countsFit_congr rfl rfl⟩
    · rw [hget a ha]; exact (h.2.1 a ha).setLayers _ _ _ _
    · rw [Lane.calOk_iff] at h ⊢
      exact ⟨h.1, fun a ha => by rw [hget a ha, Entry.setLayers_cal]; exact h.2 a ha⟩

/-! ### Happenings at a lane -/

theorem Lane.Keeps.settleRound (L : Lane) (o : Option Tx) : L.Keeps (L.settleRound o) := by
  obtain ⟨hstay, hover⟩ := L.settleRound_spec o
  by_cases h : L.RoundGoesOn o
  · rw [hstay h]; exact .refl L
  · rw [hover h]; exact .of_contents rfl rfl rfl rfl rfl rfl rfl

theorem Lane.Keeps.pollTick (L : Lane) (o : Option Tx) : L.Keeps (L.pollTick o) := by
  unfold Lane.pollTick
  split_ifs
  · refine (Lane.Keeps.settleRound L o).trans ?_
    simp only
    split
    · exact .of_contents rfl rfl rfl rfl rfl rfl rfl
    · exact ⟨id, id, id, fun h => ⟨h.1, Nat.min_le_right _ _⟩⟩
  · exact .refl L

theorem Lane.Keeps.setIndex (l : Fin 16) (L : Lane) (i : Option (Fin 32)) (c : IndexCause) (t : Option Byte) :
    L.Keeps (L.setIndex l i c t).lane := by
  by_cases h : L.index = i
  · rw [Lane.setIndex_same h]; exact .refl L
  · rw [Lane.setIndex_of_ne h]; exact .recall L L.table i id

theorem Entry.regSet_cal (o : LayerOrder) (layer : Byte) (v : Option Byte) (e : Entry) :
    (Entry.regSet o layer v e).cal = e.cal := by
  unfold Entry.regSet
  split_ifs <;> simp

theorem Entry.Ok.regSet {e : Entry} {o : LayerOrder} (he : e.Ok o) (layer : Byte) (v : Option Byte) :
    (Entry.regSet o layer v e).Ok o := by
  unfold Entry.regSet
  split_ifs <;> exact he.setLayers _ _ _ _

/-- A change at one lane keeps its contents. -/
theorem Lane.Change.keeps {o : Option Tx} {L M : Lane} (h : Lane.Change o L M) : L.Keeps M := by
  cases h with
  | waiters => exact .of_contents rfl rfl rfl rfl rfl rfl rfl
  | direct => exact .of_contents rfl rfl rfl rfl rfl rfl rfl
  | quiesce id =>
    cases o with
    | some tx => exact .of_contents rfl rfl rfl rfl rfl rfl rfl
    | none => exact (Lane.Keeps.cutShort L).trans (.of_contents rfl rfl rfl rfl rfl rfl rfl)
  | resume => exact .of_contents rfl rfl rfl rfl rfl rfl rfl
  | options b x hc hx => exact .setOptions fun hr => hr.over hx
  | layer a layer v => exact .entry a _ (Entry.regSet_cal _ _ _ _) fun h ha => (h.2.1 a ha).regSet layer v
  | watch r i w hc hr hw => exact .replaceWatch (Watch.ok_of_readWatch hr) hw
  | flags wm fm =>
    refine .watches _ fun i => ?_
    have hget : (clearFlags L.watches wm fm)[i] =
        if wm.getLsbD i.val then { L.watches[i] with flags := L.watches[i].flags.clearMask fm }
        else L.watches[i] := by simp [clearFlags]
    rw [hget]
    split_ifs
    · exact ⟨id, rfl⟩
    · exact ⟨id, rfl⟩
  | index l i c t => exact .setIndex l L i c t
  | clearTable => exact .recall L [] L.index fun _ => ⟨List.nodup_nil, by simp, by simp⟩
  | timer => exact .of_contents rfl rfl rfl rfl rfl rfl rfl
  | tick => exact .pollTick L o

theorem Lane.Keeps.stop (L : Lane) (o : Option Tx) : L.Keeps (L.stop o) :=
  .of_contents rfl rfl rfl rfl rfl rfl rfl

theorem Lane.Keeps.detach (L : Lane) (id : CmdId) (o : Option Tx) : L.Keeps (L.detach id o) := by
  cases o with
  | some tx => exact .of_contents rfl rfl rfl rfl rfl rfl rfl
  | none => exact .reset L

/-! ### Ends of frames (R80) -/

theorem Lane.Keeps.fault (l : Fin 16) (L : Lane) (tx : Tx) (f : Failure) : L.Keeps (L.fault l tx f).lane :=
  (Lane.Keeps.cutShort L).trans (.of_contents rfl rfl rfl rfl rfl rfl rfl)

theorem Lane.Keeps.fail (l : Fin 16) (L : Lane) (tx : Tx) (f : Failure) : L.Keeps (L.fail l tx f).lane := by
  unfold Lane.fail
  cases L.state
  case active => exact .fault l L tx f
  case probing => exact .of_contents rfl rfl rfl rfl rfl rfl rfl
  all_goals exact .refl L

theorem Lane.Keeps.retryOrFail (l : Fin 16) (L : Lane) (tx : Tx) (f : Failure) :
    L.Keeps (L.retryOrFail l tx f).lane := by
  unfold Lane.retryOrFail
  split_ifs
  · exact .of_contents rfl rfl rfl rfl rfl rfl rfl
  · exact .fail l L tx f

theorem Lane.Keeps.probeEnd (L : Lane) (found : Bool) : L.Keeps (L.probeEnd found).lane :=
  .of_contents rfl rfl rfl rfl rfl rfl rfl

theorem Lane.Keeps.restart (l : Fin 16) (L : Lane) : L.Keeps (L.restart l).lane :=
  (Lane.Keeps.rebuild L).trans ⟨id, id, id, fun h => ⟨Nat.min_le_right _ _, h.2⟩⟩

/-! A CHECK's outcome by the state of its lane (R50, R54). -/

theorem Lane.takeCheck_active {L : Lane} (hs : L.state = .active) (l : Fin 16) (v : Byte) :
    L.takeCheck l (.done v) =
      if restartMarker v then
        (Lane.settleRound { L with checkDue := false, round := checkTaken L.round } none).restart l
      else (Lane.settleRound { L with checkDue := false, round := checkTaken L.round } none).out := by
  simp only [Lane.takeCheck, hs]

theorem Lane.takeCheck_probing {L : Lane} (hs : L.state = .probing) (l : Fin 16) (v : Byte) :
    L.takeCheck l (.done v) =
      if restartMarker v then
        if L.purpose = some .resume then Lane.restart l { L with checkDue := false }
        else Lane.out { L with checkDue := false, ackDue := true }
      else Lane.probeEnd { L with checkDue := false } false := by
  simp only [Lane.takeCheck, hs]
  congr 1
  obtain hp | hp | hp : L.purpose = none ∨ L.purpose = some .attach ∨ L.purpose = some .resume := by
    rcases L.purpose with _ | _ | _ <;> simp
  all_goals simp [hp]

theorem Lane.takeCheck_other {L : Lane} (hp : L.state ≠ .probing) (ha : L.state ≠ .active) (l : Fin 16) (v : Byte) :
    L.takeCheck l (.done v) = L.out := by
  simp only [Lane.takeCheck]
  cases hs : L.state with
  | probing => exact absurd hs hp
  | active => exact absurd hs ha
  | _ => rfl

theorem Lane.Keeps.takeCheck (l : Fin 16) (L : Lane) (o : FrameOutcome) : L.Keeps (L.takeCheck l o).lane := by
  cases o with
  | failed f => exact .retryOrFail l L .check f
  | done v =>
    by_cases hp : L.state = .probing
    · have h : L.Keeps { L with checkDue := false } := .of_contents rfl rfl rfl rfl rfl rfl rfl
      rw [Lane.takeCheck_probing hp]
      split_ifs
      · exact h.trans (.restart l _)
      · exact .of_contents rfl rfl rfl rfl rfl rfl rfl
      · exact h.trans (.probeEnd _ false)
    by_cases ha : L.state = .active
    · have h : L.Keeps (Lane.settleRound { L with checkDue := false, round := checkTaken L.round } none) :=
        Lane.Keeps.trans (M := { L with checkDue := false, round := checkTaken L.round })
          (.of_contents rfl rfl rfl rfl rfl rfl rfl) (.settleRound _ none)
      rw [Lane.takeCheck_active ha]
      split_ifs
      · exact h.trans (.restart l _)
      · exact h
    · rw [Lane.takeCheck_other hp ha]
      exact .refl L

theorem Lane.Keeps.takeAck (l : Fin 16) (L : Lane) (o : FrameOutcome) : L.Keeps (L.takeAck l o).lane := by
  unfold Lane.takeAck
  cases o with
  | failed f => exact .retryOrFail l L .ack f
  | done v =>
    simp only
    split_ifs
    · exact .of_contents rfl rfl rfl rfl rfl rfl rfl
    · exact .of_contents rfl rfl rfl rfl rfl rfl rfl

/-- The image that a verdict on a write leaves; without one the image stays. -/
def WriteVerdict.imageOr (im : Image) : WriteVerdict → Image
  | .verifyDue => im
  | .again _ im' => im'
  | .ended im' _ => im'
  | .exhausted im' => im'

theorem Lane.Keeps.writeFailed {L : Lane} {a : Nat} (tx : Tx) (hp : (L.image.get a).state = .pending) :
    L.Keeps { L with image := (L.writeFailed a tx).imageOr L.image } := by
  unfold Lane.writeFailed
  split_ifs with ha
  · exact .entry a _ rfl fun h hmem => (h.2.1 a hmem).attempt hp ha h.2.2.2.1
  · exact .entry a _ (Entry.endWrite_cal _ _) fun h hmem => (h.2.1 a hmem).endWrite none

theorem Lane.Keeps.writeVerdict (l : Fin 16) (L : Lane) (tx : Tx) (o : FrameOutcome) :
    L.Keeps { L with image := (L.writeVerdict l tx o).imageOr L.image } := by
  unfold Lane.writeVerdict
  split_ifs with hp
  swap
  · exact .refl L
  have hend (a : Nat) : L.Keeps { L with image := L.image.modify a fun e => e.endWrite e.inFlight } :=
    .entry a _ (Entry.endWrite_cal _ _) fun h hmem => (h.2.1 a hmem).endWrite _
  have hrefused (a : Nat) (ha : (L.image.get a).state = .pending) (v : Entry → Option Byte) (r : RefusalReason) :
      L.Keeps { L with image := L.image.modify a fun e => e.endRefused (v e) r } :=
    .entry a _ (Entry.endRefused_cal _ _ _) fun h hmem => (h.2.1 a hmem).endRefused ha _ r
  cases tx
  case wb a v =>
    have hp' : (L.image.get a).state = .pending := hp
    unfold Lane.wbVerdict
    rcases o with v' | (_ | _ | _) <;> simp only
    · split_ifs
      · exact .refl L
      · exact hend a
    · exact hrefused a hp' (·.applied) .nak
    · exact .writeFailed _ hp'
    · exact .writeFailed _ hp'
  case verify a =>
    have hp' : (L.image.get a).state = .pending := hp
    unfold Lane.verifyVerdict
    rcases o with v' | (_ | _ | _) <;> simp only
    · split_ifs with hm ha
      · exact hend a
      · exact .entry a _ rfl fun h hmem => (h.2.1 a hmem).attempt hp' ha h.2.2.2.1
      · exact hrefused a hp' (fun _ => some v') .mismatch
    · exact hrefused a hp' (fun _ => none) .nak
    · exact .writeFailed _ hp'
    · exact .writeFailed _ hp'
  all_goals exact .refl L

theorem Lane.Keeps.takeWrite (l : Fin 16) (L : Lane) (tx : Tx) (o : FrameOutcome) :
    L.Keeps (L.takeWrite l tx o).lane := by
  have hv := Lane.Keeps.writeVerdict l L tx o
  unfold Lane.takeWrite
  cases h : L.writeVerdict l tx o with
  | verifyDue => exact .of_contents rfl rfl rfl rfl rfl rfl rfl
  | again tx' im => rw [h] at hv; exact hv.trans (.of_contents rfl rfl rfl rfl rfl rfl rfl)
  | ended im evs => rw [h] at hv; exact hv
  | exhausted im => rw [h] at hv; exact hv.trans (.fail l _ tx _)

theorem Lane.Keeps.handOff (l : Fin 16) (L : Lane) (v : Byte) : L.Keeps (L.handOff l v).lane := by
  unfold Lane.handOff
  split
  · exact .refl L
  · exact .setIndex l L _ _ _

theorem Lane.Keeps.pollEffect (l : Fin 16) (L : Lane) (i : Fin 8) (o : FrameOutcome) :
    L.Keeps (L.pollEffect l i o).lane := by
  unfold Lane.pollEffect
  split_ifs
  · exact .refl L
  rcases o with v | (_ | _ | _)
  · have hc : L.Keeps { L with watches := L.watches.set i (L.watches[i].compare L.options v) } :=
      .watch i _ ⟨id, rfl⟩
    simp only [Lane.takeReading]
    split_ifs
    · exact hc.trans (.handOff l _ v)
    · exact hc
  · exact .watch i { L.watches[i] with state := .suspended } ⟨id, rfl⟩
  · exact .refl L
  · exact .refl L

theorem Lane.Keeps.movePosition (L : Lane) (i : Fin 8) : L.Keeps (L.movePosition i) :=
  Lane.Keeps.trans (M := { L with round := L.round.map fun _ => .polling (some i), stalePoll := false })
    (.of_contents rfl rfl rfl rfl rfl rfl rfl) (.settleRound _ none)

theorem Lane.Keeps.takePoll (l : Fin 16) (L : Lane) (i : Fin 8) (addr : Nat) (o : FrameOutcome) :
    L.Keeps (L.takePoll l i addr o).lane := by
  unfold Lane.takePoll
  rcases o with v | (_ | _ | _)
  · exact (Lane.Keeps.pollEffect l L i _).trans (.movePosition _ i)
  · exact (Lane.Keeps.pollEffect l L i _).trans (.movePosition _ i)
  · exact .retryOrFail l L _ _
  · exact .retryOrFail l L _ _

theorem Lane.Keeps.directImage (L : Lane) (r : DirectReq) (o : FrameOutcome) :
    L.Keeps { L with image := r.image o L.image } := by
  have hlearn (v : Option Byte) : L.Keeps { L with image := L.image.modify r.addr (Entry.learn v) } :=
    .entry r.addr _ (Entry.learn_cal _ _) fun h hmem => (h.2.1 _ hmem).learn v
  unfold DirectReq.image
  split
  · exact hlearn _
  · exact hlearn _
  · exact .refl L
  · exact .refl L
  · exact .refl L
  · exact hlearn _
  · exact hlearn _

theorem Lane.Keeps.takeDirect (L : Lane) (stopped : Bool) (o : FrameOutcome) :
    L.Keeps (L.takeDirect stopped o).lane := by
  unfold Lane.takeDirect
  split
  · exact .refl L
  · rename_i r rest _
    split_ifs
    · exact .of_contents rfl rfl rfl rfl rfl rfl rfl
    · exact .of_contents rfl rfl rfl rfl rfl rfl rfl
    · exact (Lane.Keeps.directImage L r o).trans (.of_contents rfl rfl rfl rfl rfl rfl rfl)

theorem Lane.Keeps.takeOutcome (l : Fin 16) (L : Lane) (tx : Tx) (stopped : Bool) (o : FrameOutcome) :
    L.Keeps (L.takeOutcome l tx stopped o).lane := by
  unfold Lane.takeOutcome
  cases tx
  case check => exact .takeCheck l L o
  case ack => exact .takeAck l L o
  case wb a v => exact .takeWrite l L _ o
  case verify a => exact .takeWrite l L _ o
  case poll i a => exact .takePoll l L i a o
  case directRead a => exact .takeDirect L stopped o
  case directWrite a v => exact .takeDirect L stopped o

theorem Lane.Keeps.quiesceOutcome (l : Fin 16) (L : Lane) (tx : Tx) (stopped : Bool) (o : FrameOutcome) :
    L.Keeps (L.quiesceOutcome l tx stopped o).1.lane := by
  have hshort (M : Lane) (hM : L.Keeps M) (a : Nat) :
      L.Keeps { M with image := M.image.modify a (Entry.endWrite none) } :=
    hM.trans (.entry a _ (Entry.endWrite_cal _ _) fun h hmem => (h.2.1 _ hmem).endWrite none)
  have hv := Lane.Keeps.writeVerdict l L tx o
  unfold Lane.quiesceOutcome
  cases tx
  case check => exact .refl L
  case ack => exact .of_contents rfl rfl rfl rfl rfl rfl rfl
  case poll i a => exact .pollEffect l L i o
  case directRead a => exact .takeDirect L stopped o
  case directWrite a v => exact .takeDirect L stopped o
  all_goals
    simp only
    split <;> rename_i h <;> rw [h] at hv
    · exact hshort L (.refl L) _
    · exact hshort _ hv _
    · exact hv
    · exact hv

theorem Lane.Keeps.settleSync {L : Lane} {o : LaneOut} (h : L.Keeps o.lane) : L.Keeps o.settleSync.lane := by
  obtain he | he := settleSync_lane o <;> rw [he]
  · exact h
  · exact h.trans (.of_contents rfl rfl rfl rfl rfl rfl rfl)

/-- The end of a frame keeps the contents of its lane, in whatever state. -/
theorem Lane.Keeps.frameEnd (l : Fin 16) (L : Lane) (tx : Tx) (stopped : Bool) (o : FrameOutcome) :
    L.Keeps (L.frameEnd l tx stopped o).lane := by
  unfold Lane.frameEnd
  cases L.state
  case detaching => exact .reset L
  case quiescing =>
    exact (Lane.Keeps.quiesceOutcome l L tx stopped o).trans (.of_contents rfl rfl rfl rfl rfl rfl rfl)
  case detached => exact .refl L
  all_goals exact (Lane.Keeps.takeOutcome l L tx stopped o).settleSync

/-! ### Grants and commits -/

/-- A WB takes the head of the write-back queue (R26). -/
theorem Lane.choice_wb {L : Lane} {a : Nat} {v : Byte} (h : L.choice = some (.wb a v)) :
    L.state = .active ∧ L.image.queue.head? = some a := by
  have hretry : L.retryChoice ≠ some (.wb a v) := by simp [Lane.retryChoice]
  have hverify : L.verifyChoice ≠ some (.wb a v) := by unfold Lane.verifyChoice; split_ifs <;> simp
  have hack : L.ackChoice ≠ some (.wb a v) := by unfold Lane.ackChoice; split_ifs <;> simp
  have hcheck : L.checkChoice ≠ some (.wb a v) := by unfold Lane.checkChoice; split_ifs <;> simp
  have hdirect : L.directChoice ≠ some (.wb a v) := by simp [Lane.directChoice]
  have hpoll : L.pollChoice ≠ some (.wb a v) := by simp [Lane.pollChoice]
  unfold Lane.choice at h
  cases hs : L.state <;> simp only [hs, Option.orElse_eq_orElse, Option.orElse_eq_or, Option.or_eq_some_iff,
    reduceCtorEq, hretry, hverify, hack, hcheck, hdirect, hpoll, false_or, and_false, or_false] at h
  obtain ⟨-, -, -, -, -, -, hwb⟩ := h
  simp only [Lane.wbChoice, Option.map_eq_some_iff, Choice.wb.injEq] at hwb
  obtain ⟨b, hb, rfl, -⟩ := hwb
  exact ⟨rfl, hb⟩

theorem Lane.Keeps.granted {L : Lane} {c : Choice} (hc : L.choice = some c) :
    L.Keeps ((L.settleRound none).granted c) := by
  have hs := Lane.Keeps.settleRound L none
  cases c
  case wb a v =>
    obtain ⟨-, hhead⟩ := Lane.choice_wb hc
    have him : (L.settleRound none).image = L.image := by
      obtain ⟨hstay, hover⟩ := L.settleRound_spec none
      by_cases h : L.RoundGoesOn none
      · rw [hstay h]
      · rw [hover h]
    refine hs.trans (.entry a _ rfl fun h hmem => (h.2.1 a hmem).grant (h.1.dirty ?_))
    rw [him]
    exact List.mem_of_mem_head? hhead
  all_goals exact hs.trans (.of_contents rfl rfl rfl rfl rfl rfl rfl)

end Sys2Proof.Machine
end

section
/-! The invariants of the lanes' contents and of the counts (spec/01, spec/05, spec/06), step by step. -/

namespace Sys2Proof.Machine

/-! ### What an elementary change does at one lane -/

/-- The Chain Loader holds a load for the lane. -/
def State.Loads (s : State) (l : Fin 16) : Prop :=
  (∃ q ∈ s.loader.queue, q.lane = l) ∨ ∃ a ∈ s.loader.active, a.lane = l

theorem State.Loads.of_eq {s t : State} {l : Fin 16} (h : t.loader = s.loader) : t.Loads l → s.Loads l := by
  unfold State.Loads
  rw [h]
  exact id

/-- The lane `l` after an elementary change of the part `s` to `t`. -/
inductive LaneStep (s t : State) (l : Fin 16) : Lane → Prop
  | stays : LaneStep s t l s.lanes[l]
  | change (M : Lane) (h : Lane.Change (s.inFlight l) s.lanes[l] M) : LaneStep s t l M
  | attach (id : CmdId) (b : Binding) (block : OptionBlock) (x : Options)
      (hs : s.lanes[l].state = .detached) (hx : optionsOver Options.default block = some x) :
      LaneStep s t l (s.lanes[l].attach id b x)
  | detach (id : CmdId) (hs : s.lanes[l].closed = false) (hl : ¬ t.Loads l) :
      LaneStep s t l (s.lanes[l].detach id (s.inFlight l))
  | stop : LaneStep s t l (s.lanes[l].stop (s.inFlight l))
  | grant (c : Choice) (hc : s.lanes[l].choice = some c) :
      LaneStep s t l ((s.lanes[l].settleRound none).granted c)
  | frameEnd (tx : Tx) (stopped : Bool) (out : FrameOutcome) :
      LaneStep s t l (s.lanes[l].frameEnd l tx stopped out).lane
  | commit (load : ActiveLoad) (hx : s.loader.active = some load) (hl : load.lane = l)
      (hst : commitCheck load.mode s.lanes[l] s.loader.staging = .ok ()) :
      LaneStep s t l (s.lanes[l].commit (s.inFlight l) load.mode s.loader.staging)
  | reset (hl : ¬ t.Loads l) : LaneStep s t l Lane.reset

theorem LaneStep.of_setLane {s t : State} {l : Fin 16} {M : Lane} (h : LaneStep s t l M) (m : Fin 16) :
    LaneStep s t m (s.setLane l M).lanes[m] := by
  by_cases hm : m = l
  · subst hm; rw [State.setLane_get_self]; exact h
  · rw [State.setLane_get_ne _ _ hm]; exact .stays

theorem LaneStep.of_lanes {s t : State} (h : t.lanes = s.lanes) (m : Fin 16) : LaneStep s t m t.lanes[m] := by
  rw [h]; exact .stays

theorem Intake.lanes_eq {s u : State} (hu : Intake s u) : u.lanes = s.lanes := by
  cases hu <;> rfl

theorem reset_lane (m : Fin 16) : State.reset.lanes[m] = Lane.reset := by simp [State.reset]

theorem Change.laneStep {s t : State} (hc : Change s t) (m : Fin 16) : LaneStep s t m t.lanes[m] := by
  cases hc with
  | registers t h => rw [h]; exact .stays
  | message b => exact .of_lanes (by simp) m
  | event e => exact .of_lanes (by simp) m
  | finish c => exact .of_lanes (by simp) m
  | enter u e hu => exact .of_lanes (by simpa using hu.lanes_eq) m
  | enterFinished u e hu => exact .of_lanes (by simpa using hu.lanes_eq) m
  | refuseRecord u hu => exact .of_lanes (by simpa using hu.lanes_eq) m
  | popFinished => exact .of_lanes (by unfold State.popFinished; split <;> rfl) m
  | startHead p =>
    refine .of_lanes ?_ m
    obtain h | ⟨x, xs, -, -, -, h⟩ := startHead_cases s p <;> rw [h]
  | reset => exact .of_lanes (by unfold State.controlReset; split_ifs <;> rfl) m
  | clear =>
    rw [show s.cleared.lanes = State.reset.lanes from rfl, reset_lane]
    exact .reset (by simp [State.Loads, State.cleared, State.reset, Loader.reset])
  | detachLoads l => exact .of_lanes (by simp) m
  | stopLoads =>
    refine .of_lanes ?_ m
    obtain hd | hd := stopLoads_cases s <;> simp [hd, State.endLoad]
  | startLoad q => exact .of_lanes (by simp) m
  | blockDropped a ts => exact .of_lanes (by simp) m
  | loadEnded a ts => exact .of_lanes (by simp) m
  | commitEnded load => exact .of_lanes (by simp) m
  | lane l M h => exact (LaneStep.change M h).of_setLane m
  | attach l id b block x hs hp hb hx => exact (LaneStep.attach id b block x hs hx).of_setLane m
  | detach l id hs hq ha =>
    refine (LaneStep.detach id hs ?_).of_setLane m
    rintro (⟨q, hmem, he⟩ | ⟨a, hmem, he⟩)
    · exact hq q hmem he
    · exact ha a hmem he
  | stopLanes =>
    rw [show s.stopLanes.lanes[m] = s.lanes[m].stop (s.inFlight m) by simp [State.stopLanes]]
    exact .stop
  | grant p sel l c he hf hl hc => exact (LaneStep.grant c hc).of_setLane m
  | frameEnd p f stopped out hf hd => exact (LaneStep.frameEnd f.tx stopped out).of_setLane m
  | commit load hx hst => exact (LaneStep.commit load hx rfl hst).of_setLane m
  | _ => exact .stays

/-! ### The staging area (R126, R127) -/

/-- The staged columns and watch records are as the checks of a block leave them. -/
def Staging.ColumnsFit (st : Staging) : Prop := ColumnsOk (st.columns.map (·.column))

def Staging.WatchesFit (st : Staging) : Prop := ∀ i : Fin 8, ∀ w ∈ st.watches[i], w.watch.Ok

theorem Staging.columnsFit_reset : Staging.reset.ColumnsFit := ⟨List.nodup_nil, by simp [Staging.reset], by simp [Staging.reset]⟩

theorem Staging.watchesFit_reset : Staging.reset.WatchesFit := by
  intro i w hw
  simp [Staging.reset] at hw

theorem nextLoad_staging (s : State) : s.nextLoad.loader.staging = Staging.reset := by
  unfold State.nextLoad
  split <;> rfl

theorem Intake.loader_eq {s u : State} (hu : Intake s u) : u.loader = s.loader := by
  cases hu <;> rfl

/-- The staging area stays, empties, or takes a block that has passed. -/
theorem Change.staging_cases {s t : State} (hc : Change s t) :
    t.loader.staging = s.loader.staging ∨ t.loader.staging = Staging.reset ∨
      ∃ position bs, checkBlock position bs s.loader.staging = .ok t.loader.staging := by
  cases hc with
  | registers t h => exact .inl (by rw [h])
  | message b => exact .inl (by simp)
  | event e => exact .inl (by simp)
  | finish c => exact .inl (by simp)
  | enter u e hu => exact .inl (by simp [hu.loader_eq])
  | enterFinished u e hu => exact .inl (congrArg Loader.staging hu.loader_eq)
  | refuseRecord u hu => exact .inl (by simp [hu.loader_eq])
  | popFinished => exact .inl (by unfold State.popFinished; split <;> rfl)
  | startHead p => exact .inl (by obtain h | ⟨x, xs, -, -, -, h⟩ := startHead_cases s p <;> rw [h])
  | reset => exact .inl (by unfold State.controlReset; split_ifs <;> rfl)
  | clear => exact .inr (.inl rfl)
  | detachLoads l =>
    unfold State.detachLoads
    cases s.loader.active with
    | none => exact .inl rfl
    | some a =>
      simp only
      split_ifs
      · exact .inr (.inl rfl)
      · exact .inr (.inl (nextLoad_staging _))
      · exact .inl rfl
  | stopLoads =>
    obtain hd | hd := stopLoads_cases s <;> rw [hd]
    · exact .inl rfl
    · exact .inr (.inl (nextLoad_staging _))
  | startLoad q => exact .inr (.inl (nextLoad_staging _))
  | blockDropped a ts => exact .inr (.inl (nextLoad_staging _))
  | loadEnded a ts => exact .inr (.inl (nextLoad_staging _))
  | commitEnded load => exact .inr (.inl (nextLoad_staging _))
  | chainWhole a ts hts hd load hx bs st hst => exact .inr (.inr ⟨_, bs, hst⟩)
  | askBlock a next ts hts hd load hx hp bs st hst => exact .inr (.inr ⟨_, bs, hst⟩)
  | _ => exact .inl rfl

/-- A block that passes leaves what the block of its kind stages. -/
theorem checkBlock_ok {position : Nat} {bs : List Byte} {st st' : Staging}
    (h : checkBlock position bs st = .ok st') :
    ∃ k, entriesOk k st bs = true ∧ st' = stageBlock k position bs st ∧
      st'.columns.length ≤ Config.tableColumns := by
  unfold checkBlock at h
  by_cases hsum : blockSum bs ≠ 0
  · rw [if_pos hsum] at h; cases h
  rw [if_neg hsum] at h
  cases hkind : blockKind bs with
  | none => rw [hkind] at h; cases h
  | some k =>
    rw [hkind] at h
    simp only at h
    split_ifs at h with hcount halign hentries hroom
    obtain rfl := Except.ok.inj h
    exact ⟨k, Bool.eq_true_of_not_eq_false hentries, rfl, Nat.le_of_not_lt hroom⟩

theorem map_addedColumns_target (position : Nat) (bs : List Byte) :
    (addedColumns position bs).map (fun c => c.column.target) = columnTargets bs := by
  rw [columnTargets_eq, addedColumns, List.map_map]
  rfl

/-- Staged columns of distinct targets stay so when a block passes (R126). -/
theorem Staging.ColumnsFit.staged {position : Nat} {bs : List Byte} {st st' : Staging} (hst : st.ColumnsFit)
    (h : checkBlock position bs st = .ok st') : st'.ColumnsFit := by
  obtain ⟨k, hk, rfl, hlen⟩ := checkBlock_ok h
  cases k with
  | base => rw [stageBlock_base]; exact hst
  | watch => rw [stageBlock_watch]; exact hst
  | cal =>
    rw [stageBlock_cal] at hlen ⊢
    obtain ⟨hnodup, hmem, -⟩ := hst
    obtain ⟨hnew, hdistinct⟩ := (columnsOk_iff _ _).1 hk
    rw [← map_addedColumns_target position] at hnew hdistinct
    rw [List.map_map] at hnodup
    unfold Staging.ColumnsFit ColumnsOk
    simp only [List.map_append, List.map_map, List.length_append, List.length_map, List.mem_append] at hlen ⊢
    refine ⟨List.nodup_append.2 ⟨hnodup, hdistinct, ?_⟩, ?_, by simpa using hlen⟩
    · rintro a ha b hb rfl
      exact (hnew a hb).2.2 ha
    · rintro c (hc | hc)
      · exact hmem c hc
      · obtain ⟨x, hx, rfl⟩ := List.mem_map.1 hc
        have := hnew x.column.target (List.mem_map.2 ⟨x, hx, rfl⟩)
        exact mem_addresses.2 ⟨this.1, this.2.1⟩

theorem Staging.WatchesFit.staged {position : Nat} {bs : List Byte} {st st' : Staging} (hst : st.WatchesFit)
    (h : checkBlock position bs st = .ok st') : st'.WatchesFit := by
  obtain ⟨k, -, rfl, -⟩ := checkBlock_ok h
  cases k with
  | base => rw [stageBlock_base]; exact hst
  | cal => rw [stageBlock_cal]; exact hst
  | watch =>
    rw [stageBlock_watch]
    unfold Staging.WatchesFit
    simp only
    induction blockCount bs with
    | zero => exact hst
    | succ n ih =>
      intro i w hw
      rw [placeEntries_succ] at hw
      by_cases hi : ∃ a, watchEntryAt position bs (entryStart .watch n) = some (i, a)
      · obtain ⟨a, ha⟩ := hi
        rw [ha, placeEntry_same] at hw
        obtain rfl := Option.some.inj hw
        obtain ⟨⟨j, v⟩, hread, heq⟩ := Option.map_eq_some_iff.1 ha
        obtain ⟨-, rfl⟩ := Prod.mk.inj heq
        exact Watch.ok_of_readWatch hread
      · rw [placeEntry_other _ fun a ha => hi ⟨a, ha⟩] at hw
        exact ih i w hw

/-! ### The commit (R129 to R132) -/

theorem ColumnsOk.mergeColumn {t : List Column} (hn : (t.map (·.target)).Nodup) (ht : ∀ d ∈ t, d.target ∈ addresses)
    {c : Column} (hc : c.target ∈ addresses) :
    ((mergeColumn t c).map (·.target)).Nodup ∧ ∀ d ∈ mergeColumn t c, d.target ∈ addresses := by
  unfold Machine.mergeColumn
  split_ifs with hany
  · have hsame : (t.map fun d => if d.target = c.target then c else d).map (·.target) = t.map (·.target) := by
      rw [List.map_map]
      refine List.map_congr_left fun d _ => ?_
      simp only [Function.comp_apply]
      split_ifs with hd
      · exact hd.symm
      · rfl
    refine ⟨hsame ▸ hn, fun d hd => ?_⟩
    obtain ⟨x, hx, rfl⟩ := List.mem_map.1 hd
    split_ifs
    · exact hc
    · exact ht x hx
  · have hfresh : c.target ∉ t.map (·.target) := by
      rintro hmem
      obtain ⟨d, hd, he⟩ := List.mem_map.1 hmem
      exact hany (List.any_eq_true.2 ⟨d, hd, by simp [he]⟩)
    refine ⟨?_, fun d hd => ?_⟩
    · rw [List.map_append, List.map_singleton]
      exact List.nodup_append.2 ⟨hn, List.nodup_singleton _, fun a ha b hb he => by
        obtain rfl := List.mem_singleton.1 hb
        exact hfresh (he ▸ ha)⟩
    · obtain hd | hd := List.mem_append.1 hd
      · exact ht d hd
      · rw [List.mem_singleton.1 hd]; exact hc

/-- The table that a commit's checks let pass (R129 to R131). -/
theorem columnsOk_tableAfter {mode : LoadMode} {L : Lane} {st : Staging} (hL : ColumnsOk L.table)
    (hst : st.ColumnsFit) (hcheck : commitCheck mode L st = .ok ()) : ColumnsOk (tableAfter mode L.table st) := by
  have hlen : ¬ (mode = .merge ∧ Config.tableColumns < (tableAfter mode L.table st).length) := by
    intro hbad
    unfold commitCheck at hcheck
    rw [if_pos hbad] at hcheck
    cases hcheck
  cases mode with
  | replace =>
    unfold tableAfter
    split_ifs
    · exact hL
    · exact hst
  | merge =>
    have hlen' := Nat.le_of_not_lt fun h => hlen ⟨rfl, h⟩
    suffices h : ((tableAfter .merge L.table st).map (·.target)).Nodup ∧
        ∀ d ∈ tableAfter .merge L.table st, d.target ∈ addresses from ⟨h.1, h.2, hlen'⟩
    unfold tableAfter
    split_ifs
    · exact ⟨hL.1, hL.2.1⟩
    · have hcols : ∀ c ∈ st.columns, c.column.target ∈ addresses := fun c hc =>
        hst.2.1 c.column (List.mem_map.2 ⟨c, hc, rfl⟩)
      simp only
      have hstart := And.intro hL.1 hL.2.1
      revert hcols hstart
      generalize L.table = table
      generalize st.columns = cs
      intro hcols hstart
      induction cs generalizing table with
      | nil => exact hstart
      | cons c cs ih =>
        exact ih _ (fun d hd => hcols d (List.mem_cons_of_mem _ hd))
          (ColumnsOk.mergeColumn hstart.1 hstart.2 (hcols c List.mem_cons_self))

theorem Staging.hasWatch_eq_false {st : Staging} (h : st.hasWatch = false) (i : Fin 8) : st.watches[i] = none := by
  have := List.any_eq_false.1 h st.watches[i] (by simp)
  simpa using this

theorem watchesAfter_get (ws : Vector Watch 8) (st : Staging) (i : Fin 8) :
    (watchesAfter ws st)[i] = (st.watches[i].map (·.watch)).getD ws[i] := by
  simp only [watchesAfter, Vector.getElem_ofFn, Fin.getElem_fin]
  cases st.watches[(i : Nat)] <;> rfl

theorem watchesAfter_of_none {ws : Vector Watch 8} {st : Staging} (h : st.hasWatch = false) :
    watchesAfter ws st = ws := by
  refine Vector.ext fun i hi => ?_
  have := watchesAfter_get ws st ⟨i, hi⟩
  rw [Staging.hasWatch_eq_false h] at this
  exact this

theorem commit_image (L : Lane) (o : Option Tx) (mode : LoadMode) (st : Staging) :
    (L.commit o mode st).image = L.image.mapEntries fun a e =>
      e.setLayers L.options.layerOrder (baseAfter mode st a e) e.hold (calAfter mode L st a e) := rfl

/-- The parts of the lane that a commit takes from its staging area, and those that it leaves. -/
theorem commit_contents (L : Lane) (o : Option Tx) (mode : LoadMode) (st : Staging) :
    (L.commit o mode st).table = tableAfter mode L.table st ∧
      (L.commit o mode st).watches = watchesAfter L.watches st ∧
      (L.commit o mode st).options = L.options ∧ (L.commit o mode st).index = L.index ∧
      (L.commit o mode st).restartCount = L.restartCount ∧
      (L.commit o mode st).overrunCount = L.overrunCount := by
  simp only [Lane.commit, and_self]

theorem commit_get (L : Lane) (o : Option Tx) (mode : LoadMode) (st : Staging) {a : Nat} (ha : a ∈ addresses) :
    (L.commit o mode st).image.get a =
      (L.image.get a).setLayers L.options.layerOrder (baseAfter mode st a (L.image.get a)) (L.image.get a).hold
        (calAfter mode L st a (L.image.get a)) := by
  rw [commit_image, Image.get_mapEntries _ _ ha]

theorem Lane.ImageFits.commit {L : Lane} (h : L.ImageFits) (o : Option Tx) (mode : LoadMode) (st : Staging) :
    (L.commit o mode st).ImageFits := by
  obtain ⟨-, -, hopts, -⟩ := commit_contents L o mode st
  obtain ⟨hqueue, hentries, hoptions⟩ := h
  unfold Lane.ImageFits
  rw [hopts]
  refine ⟨?_, fun a ha => ?_, hoptions⟩
  · rw [commit_image]; exact hqueue.mapEntries _
  · rw [commit_get _ _ _ _ ha]; exact (hentries a ha).setLayers _ _ _ _

theorem Lane.CalOk.commit {L : Lane} (h : L.CalOk) {mode : LoadMode} {st : Staging} (hst : st.ColumnsFit)
    (hcheck : commitCheck mode L st = .ok ()) (o : Option Tx) : (L.commit o mode st).CalOk := by
  obtain ⟨htable, -, -, hindex, -⟩ := commit_contents L o mode st
  rw [Lane.calOk_iff] at h ⊢
  rw [htable, hindex]
  refine ⟨columnsOk_tableAfter h.1 hst hcheck, fun a ha => ?_⟩
  rw [commit_get _ _ _ _ ha, Entry.setLayers_cal]
  unfold calAfter
  split_ifs with hempty
  · have hsame : tableAfter mode L.table st = L.table := by unfold tableAfter; exact if_pos hempty
    rw [h.2 a ha, hsame]
  · rfl

theorem Lane.WatchesOk.commit {L : Lane} (h : L.WatchesOk) {mode : LoadMode} {st : Staging} (hst : st.WatchesFit)
    (hcheck : commitCheck mode L st = .ok ()) (o : Option Tx) : (L.commit o mode st).WatchesOk := by
  obtain ⟨-, hwatches, -⟩ := commit_contents L o mode st
  unfold Lane.WatchesOk
  rw [hwatches]
  refine ⟨fun i => ?_, ?_⟩
  · rw [watchesAfter_get]
    cases hw : st.watches[i] with
    | some w => exact hst i w hw
    | none => exact h.1 i
  · unfold commitCheck at hcheck
    split_ifs at hcheck with h1 h2
    cases hw : st.hasWatch with
    | false => rw [watchesAfter_of_none hw]; exact h.2
    | true => exact Nat.le_of_not_lt fun hlt => h2 ⟨hw, hlt⟩

/-! ### Every change keeps the lanes' contents -/

/-- Calibration, watches and counts of a lane are kept as long as the staging area is well filled. -/
theorem LaneStep.keeps {s t : State} {l : Fin 16} {M : Lane} (h : LaneStep s t l M) :
    (s.loader.staging.ColumnsFit → s.lanes[l].CalOk → M.CalOk) ∧
      (s.loader.staging.WatchesFit → s.lanes[l].WatchesOk → M.WatchesOk) ∧
      (s.lanes[l].CountsFit → M.CountsFit) := by
  have of_keeps {M : Lane} (hk : s.lanes[l].Keeps M) :
      (s.loader.staging.ColumnsFit → s.lanes[l].CalOk → M.CalOk) ∧
        (s.loader.staging.WatchesFit → s.lanes[l].WatchesOk → M.WatchesOk) ∧
        (s.lanes[l].CountsFit → M.CountsFit) := ⟨fun _ => hk.2.1, fun _ => hk.2.2.1, hk.2.2.2⟩
  cases h with
  | stays => exact of_keeps (.refl _)
  | change M h => exact of_keeps h.keeps
  | detach id hs => exact of_keeps (.detach _ _ _)
  | stop => exact of_keeps (.stop _ _)
  | grant c hc => exact of_keeps (.granted hc)
  | frameEnd tx stopped out => exact of_keeps (.frameEnd _ _ _ _ _)
  | reset => exact of_keeps (.reset _)
  | attach id b block x hs hx =>
    refine ⟨fun _ h => ?_, fun _ => Lane.watchesOk_congr rfl, Lane.countsFit_congr rfl rfl⟩
    rw [Lane.calOk_iff] at h ⊢
    exact h
  | commit load hx hl hst =>
    obtain ⟨-, -, -, -, hrestart, hoverrun⟩ := commit_contents s.lanes[l] (s.inFlight l) load.mode s.loader.staging
    exact ⟨fun hcols h => h.commit hcols hst _, fun hw h => h.commit hw hst _,
      Lane.countsFit_congr hrestart hoverrun⟩

theorem Change.keeps_calibration {s t : State} (hc : Change s t) (h : CalInv s) : CalInv t := by
  obtain ⟨hlanes, hstaging⟩ := h
  refine ⟨fun l => (hc.laneStep l).keeps.1 hstaging (hlanes l), ?_⟩
  obtain he | he | ⟨position, bs, he⟩ := hc.staging_cases
  · rw [he]; exact hstaging
  · rw [he]; exact Staging.columnsFit_reset
  · exact Staging.ColumnsFit.staged hstaging he

theorem Change.keeps_watches {s t : State} (hc : Change s t) (h : WatchInv s) : WatchInv t := by
  obtain ⟨hlanes, hstaging⟩ := h
  refine ⟨fun l => (hc.laneStep l).keeps.2.1 hstaging (hlanes l), ?_⟩
  obtain he | he | ⟨position, bs, he⟩ := hc.staging_cases
  · rw [he]; exact hstaging
  · rw [he]; exact Staging.watchesFit_reset
  · exact Staging.WatchesFit.staged hstaging he

/-- Settles O7: each elementary change of a step keeps both invariants. -/
theorem stepKeepsCalibrationAndWatches : Obligations.StepKeepsCalibrationAndWatches := by
  unfold Obligations.StepKeepsCalibrationAndWatches
  intro s t ht
  have hc := step_changes ht
  exact ⟨fun h => hc.keep Change.keeps_calibration h, fun h => hc.keep Change.keeps_watches h⟩

/-! ### Counts (R54, R97, R160, R164) -/

/-- The lost-event count at its end. -/
theorem Change.keeps_lost {s t : State} (hc : Change s t) (h : s.eq.lost ≤ Config.countMax) :
    t.eq.lost ≤ Config.countMax := by
  cases hc with
  | registers t ht => rw [ht]; exact h
  | message b hd => simpa using h
  | event e =>
    obtain hs | ⟨-, -, hs⟩ | hs := s.raise_cases e <;> rw [hs]
    · exact h
    · exact h
    · exact Nat.min_le_right _ _
  | finish c => simpa using h
  | enter u e hu => cases hu <;> exact h
  | enterFinished u e hu => cases hu <;> exact h
  | refuseRecord u hu => cases hu <;> exact h
  | popFinished => unfold State.popFinished; split <;> exact h
  | startHead p =>
    obtain hs | ⟨x, xs, -, -, -, hs⟩ := startHead_cases s p <;> rw [hs] <;> exact h
  | eventWritten => exact (Nat.sub_le _ _).trans h
  | eventLost => exact Nat.min_le_right _ _
  | halt => exact Nat.min_le_right _ _
  | reset =>
    unfold State.controlReset
    split_ifs
    · exact h
    · exact Nat.min_le_right _ _
  | clear => exact Nat.zero_le _
  | detachLoads l =>
    obtain ⟨d, hd⟩ | ⟨d, hd⟩ := detachLoads_cases s l <;> simpa [hd, State.endLoad] using h
  | stopLoads =>
    obtain hd | hd := stopLoads_cases s <;> simpa [hd, State.endLoad] using h
  | startLoad q => simpa using h
  | commitEnded load => simpa using h
  | blockDropped a ts hts => simpa using h
  | loadEnded a ts hts => simpa using h
  | _ => exact h

theorem Change.keeps_setupBase {s t : State} (hc : Change s t) (h : aligned64 s.setupBase = true) :
    aligned64 t.setupBase = true := by
  cases hc with
  | registers t ht => rw [ht]; exact h
  | setupBase a ha => exact ha h
  | message b hd => simpa using h
  | event e => simpa using h
  | finish c => simpa using h
  | enter u e hu => cases hu <;> exact h
  | enterFinished u e hu => cases hu <;> exact h
  | refuseRecord u hu => cases hu <;> exact h
  | popFinished => unfold State.popFinished; split <;> exact h
  | startHead p =>
    obtain hs | ⟨x, xs, -, -, -, hs⟩ := startHead_cases s p <;> rw [hs] <;> exact h
  | reset => unfold State.controlReset; split_ifs <;> exact h
  | clear => rfl
  | detachLoads l =>
    obtain ⟨d, hd⟩ | ⟨d, hd⟩ := detachLoads_cases s l <;> simpa [hd, State.endLoad] using h
  | stopLoads =>
    obtain hd | hd := stopLoads_cases s <;> simpa [hd, State.endLoad] using h
  | startLoad q => simpa using h
  | commitEnded load => simpa using h
  | blockDropped a ts hts => simpa using h
  | loadEnded a ts hts => simpa using h
  | _ => exact h

theorem Change.keeps_counts {s t : State} (hc : Change s t) (h : CountInv s) : CountInv t :=
  ⟨fun l => (hc.laneStep l).keeps.2.2 (h.1 l), hc.keeps_lost h.2.1, hc.keeps_setupBase h.2.2⟩

/-- Settles O10: each elementary change of a step keeps the rings and the counts. -/
theorem stepKeepsRingsAndCounts : Obligations.StepKeepsRingsAndCounts := by
  unfold Obligations.StepKeepsRingsAndCounts
  intro s t ht
  have hc := step_changes ht
  exact ⟨fun h => hc.keep Change.keeps_rings h, fun h => hc.keep Change.keeps_counts h⟩

end Sys2Proof.Machine
end

section
/-! The invariant of the lane images (spec/01): a DETACHED lane is cleared, and loads name open lanes. -/

namespace Sys2Proof.Machine

/-! ### Lane states at the happenings -/

@[simp] theorem Lane.settleRound_state (L : Lane) (o : Option Tx) : (L.settleRound o).state = L.state := by
  obtain ⟨hstay, hover⟩ := L.settleRound_spec o
  by_cases h : L.RoundGoesOn o
  · rw [hstay h]
  · rw [hover h]

@[simp] theorem Lane.pollTick_state (L : Lane) (o : Option Tx) : (L.pollTick o).state = L.state := by
  unfold Lane.pollTick
  split_ifs
  · simp only
    split <;> simp
  · rfl

@[simp] theorem Lane.setIndex_state (l : Fin 16) (L : Lane) (i : Option (Fin 32)) (c : IndexCause)
    (t : Option Byte) : (L.setIndex l i c t).lane.state = L.state := by
  by_cases h : L.index = i
  · rw [Lane.setIndex_same h, Lane.out]
  · rw [Lane.setIndex_of_ne h]

@[simp] theorem Lane.granted_state (L : Lane) (c : Choice) : (L.granted c).state = L.state := by
  cases c <;> simp only [Lane.granted]

theorem Lane.closed_eq_false_iff (L : Lane) :
    L.closed = false ↔ L.state ≠ .detached ∧ L.state ≠ .detaching := by
  simp [Lane.closed]

theorem Lane.closed_of_state_eq {L M : Lane} (h : M.state = L.state) : M.closed = L.closed := by
  simp only [Lane.closed, h]

theorem Lane.closed_of_states {L M : Lane} (hL : L.state ≠ .detached ∧ L.state ≠ .detaching)
    (hM : M.state ≠ .detached ∧ M.state ≠ .detaching) : M.closed = L.closed := by
  rw [(Lane.closed_eq_false_iff M).2 hM, (Lane.closed_eq_false_iff L).2 hL]

theorem Lane.quiesce_state (L : Lane) (id : CmdId) (o : Option Tx) :
    (L.quiesce id o).lane.state = if o.isSome then .quiescing else .quiesced := by
  cases o <;> rfl

/-- The changes at one lane neither open a lane nor close it. -/
theorem Lane.Change.closed_eq {o : Option Tx} {L M : Lane} (h : Lane.Change o L M) : M.closed = L.closed := by
  cases h with
  | quiesce id h =>
    refine Lane.closed_of_states (by simp [h]) ?_
    rw [Lane.quiesce_state]
    split_ifs <;> simp
  | resume id h =>
    refine Lane.closed_of_states ?_ (by simp [Lane.resume])
    obtain h | h := h <;> simp [h]
  | index l i cause t h => exact Lane.closed_of_state_eq (by simp)
  | tick h => exact Lane.closed_of_state_eq (by simp)
  | clearTable h => exact Lane.closed_of_state_eq (by simp only)
  | layer a layer v h => exact Lane.closed_of_state_eq (by simp only)
  | options b x h hx => exact Lane.closed_of_state_eq (by simp only [Lane.setOptions])
  | _ => rfl

/-! ### The state after the end of a frame -/

theorem Lane.fail_state (l : Fin 16) (L : Lane) (tx : Tx) (f : Failure) :
    (L.fail l tx f).lane.state = L.state ∨ (L.fail l tx f).lane.state = .faulted := by
  cases hs : L.state <;> simp only [Lane.fail, hs, Lane.out, reduceCtorEq, or_false, or_true]
  · exact .inr rfl
  · exact .inr rfl

theorem Lane.retryOrFail_state (l : Fin 16) (L : Lane) (tx : Tx) (f : Failure) :
    (L.retryOrFail l tx f).lane.state = L.state ∨ (L.retryOrFail l tx f).lane.state = .faulted := by
  unfold Lane.retryOrFail
  split_ifs
  · exact .inl rfl
  · exact L.fail_state l tx f

theorem Lane.takeCheck_state (l : Fin 16) (L : Lane) (o : FrameOutcome) :
    (L.takeCheck l o).lane.state = L.state ∨ (L.takeCheck l o).lane.state = .active ∨
      (L.takeCheck l o).lane.state = .faulted := by
  cases o with
  | failed f => exact (L.retryOrFail_state l .check f).imp_right .inr
  | done v =>
    by_cases hp : L.state = .probing
    · rw [Lane.takeCheck_probing hp]
      split_ifs
      · exact .inl rfl
      · exact .inl rfl
      · exact .inr (.inl rfl)
    by_cases ha : L.state = .active
    · rw [Lane.takeCheck_active ha]
      split_ifs <;> simp [Lane.restart, Lane.out]
    · rw [Lane.takeCheck_other hp ha]
      exact .inl rfl

theorem Lane.takeAck_state (l : Fin 16) (L : Lane) (o : FrameOutcome) :
    (L.takeAck l o).lane.state = L.state ∨ (L.takeAck l o).lane.state = .active ∨
      (L.takeAck l o).lane.state = .faulted := by
  unfold Lane.takeAck
  cases o with
  | failed f => exact (L.retryOrFail_state l .ack f).imp_right .inr
  | done v =>
    simp only
    split_ifs
    · exact .inr (.inl rfl)
    · exact .inl rfl

theorem Lane.takeWrite_state (l : Fin 16) (L : Lane) (tx : Tx) (o : FrameOutcome) :
    (L.takeWrite l tx o).lane.state = L.state ∨ (L.takeWrite l tx o).lane.state = .faulted := by
  unfold Lane.takeWrite
  cases L.writeVerdict l tx o with
  | verifyDue => exact .inl rfl
  | again tx' im => exact .inl rfl
  | ended im evs => exact .inl rfl
  | exhausted im => exact Lane.fail_state l { L with image := im } tx _

@[simp] theorem Lane.pollEffect_state (l : Fin 16) (L : Lane) (i : Fin 8) (o : FrameOutcome) :
    (L.pollEffect l i o).lane.state = L.state := by
  unfold Lane.pollEffect
  split_ifs
  · rfl
  rcases o with v | (_ | _ | _)
  · simp only [Lane.takeReading]
    split_ifs
    · unfold Lane.handOff
      split
      · rfl
      · exact Lane.setIndex_state l _ _ _ _
    · rfl
  all_goals rfl

@[simp] theorem Lane.movePosition_state (L : Lane) (i : Fin 8) : (L.movePosition i).state = L.state := by
  simp [Lane.movePosition]

theorem Lane.takePoll_state (l : Fin 16) (L : Lane) (i : Fin 8) (addr : Nat) (o : FrameOutcome) :
    (L.takePoll l i addr o).lane.state = L.state ∨ (L.takePoll l i addr o).lane.state = .faulted := by
  unfold Lane.takePoll
  rcases o with v | (_ | _ | _)
  · exact .inl (by simp)
  · exact .inl (by simp)
  · exact L.retryOrFail_state l _ _
  · exact L.retryOrFail_state l _ _

@[simp] theorem Lane.takeDirect_state (L : Lane) (stopped : Bool) (o : FrameOutcome) :
    (L.takeDirect stopped o).lane.state = L.state := by
  unfold Lane.takeDirect
  split
  · rfl
  · split_ifs <;> rfl

/-- A frame's outcome leaves a lane in its state, or takes it to ACTIVE or FAULTED (R50 to R57). -/
theorem Lane.takeOutcome_state (l : Fin 16) (L : Lane) (tx : Tx) (stopped : Bool) (o : FrameOutcome) :
    (L.takeOutcome l tx stopped o).lane.state = L.state ∨ (L.takeOutcome l tx stopped o).lane.state = .active ∨
      (L.takeOutcome l tx stopped o).lane.state = .faulted := by
  unfold Lane.takeOutcome
  cases tx
  case check => exact L.takeCheck_state l o
  case ack => exact L.takeAck_state l o
  case wb a v => exact (L.takeWrite_state l _ o).imp_right .inr
  case verify a => exact (L.takeWrite_state l _ o).imp_right .inr
  case poll i a => exact (L.takePoll_state l i a o).imp_right .inr
  case directRead a => exact .inl (L.takeDirect_state stopped o)
  case directWrite a v => exact .inl (L.takeDirect_state stopped o)

/-- What a frame's end leaves of a lane, by the state of the lane. -/
theorem Lane.frameEnd_detaching {L : Lane} (h : L.state = .detaching) (l : Fin 16) (tx : Tx) (stopped : Bool)
    (o : FrameOutcome) : L.frameEnd l tx stopped o = L.detachEnd := by
  simp only [Lane.frameEnd, h]

theorem Lane.frameEnd_quiescing {L : Lane} (h : L.state = .quiescing) (l : Fin 16) (tx : Tx) (stopped : Bool)
    (o : FrameOutcome) : L.frameEnd l tx stopped o = L.quiesceEnd l tx stopped o := by
  simp only [Lane.frameEnd, h]

theorem Lane.frameEnd_detached {L : Lane} (h : L.state = .detached) (l : Fin 16) (tx : Tx) (stopped : Bool)
    (o : FrameOutcome) : L.frameEnd l tx stopped o = L.out := by
  simp only [Lane.frameEnd, h]

theorem Lane.frameEnd_open {L : Lane} (hd : L.closed = false) (hq : L.state ≠ .quiescing) (l : Fin 16) (tx : Tx)
    (stopped : Bool) (o : FrameOutcome) :
    L.frameEnd l tx stopped o = (L.takeOutcome l tx stopped o).settleSync := by
  obtain ⟨hdet, hdetaching⟩ := (Lane.closed_eq_false_iff L).1 hd
  unfold Lane.frameEnd
  cases hs : L.state with
  | detached => exact absurd hs hdet
  | detaching => exact absurd hs hdetaching
  | quiescing => exact absurd hs hq
  | _ => rfl

@[simp] theorem LaneOut.settleSync_state (o : LaneOut) : o.settleSync.lane.state = o.lane.state := by
  obtain he | he := settleSync_lane o <;> rw [he]

/-- A frame's end neither opens a lane nor closes one, and leaves a DETACHED lane alone. -/
theorem Lane.frameEnd_closed (l : Fin 16) (L : Lane) (tx : Tx) (stopped : Bool) (o : FrameOutcome) :
    (L.frameEnd l tx stopped o).lane.closed = L.closed := by
  by_cases hdet : L.state = .detached
  · rw [Lane.frameEnd_detached hdet]; rfl
  by_cases hdetaching : L.state = .detaching
  · rw [Lane.frameEnd_detaching hdetaching]
    simp only [Lane.closed, hdetaching]
    rfl
  by_cases hq : L.state = .quiescing
  · rw [Lane.frameEnd_quiescing hq]
    exact Lane.closed_of_states (by simp [hq]) (by simp [Lane.quiesceEnd])
  · have hopen := (Lane.closed_eq_false_iff L).2 ⟨hdet, hdetaching⟩
    rw [Lane.frameEnd_open hopen hq]
    refine Lane.closed_of_states ⟨hdet, hdetaching⟩ ?_
    rw [LaneOut.settleSync_state]
    obtain h | h | h := L.takeOutcome_state l tx stopped o <;> rw [h]
    · exact ⟨hdet, hdetaching⟩
    · simp
    · simp

/-! ### A DETACHED lane is cleared (R64) -/

/-- A DETACHED lane holds the reset contents. -/
def Lane.Cleared (L : Lane) : Prop := L.state = .detached → L = Lane.reset

theorem Lane.Cleared.of_ne {L : Lane} (h : L.state ≠ .detached) : L.Cleared := fun hd => absurd hd h

theorem Lane.Cleared.of_closed {L : Lane} (h : L.closed = false) : L.Cleared :=
  .of_ne ((Lane.closed_eq_false_iff L).1 h).1

theorem Lane.Cleared.change {o : Option Tx} {L M : Lane} (h : Lane.Change o L M) (hL : L.Cleared) : M.Cleared := by
  by_cases hc : L.closed = false
  · exact .of_closed (h.closed_eq.trans hc)
  cases h with
  | waiters ws hw =>
    intro hd
    have hreset : L = Lane.reset := hL hd
    rw [hw hd (by rw [hreset]; rfl), hreset]
    rfl
  | quiesce id h => exact absurd ((Lane.closed_eq_false_iff L).2 (by simp [h])) hc
  | resume id h => exact absurd ((Lane.closed_eq_false_iff L).2 (by obtain h | h := h <;> simp [h])) hc
  | timer n h => exact .of_ne h
  | tick h => exact .of_ne (by simpa using h)
  | direct id addr value h => exact absurd h hc
  | options b x h hx => exact absurd h hc
  | layer a layer v h => exact absurd h hc
  | watch r i w h => exact absurd h hc
  | flags wm fm h => exact absurd h hc
  | index l i cause t h => exact absurd h hc
  | clearTable h => exact absurd h hc

theorem Lane.stop_reset (o : Option Tx) : Lane.reset.stop o = Lane.reset := by
  simp [Lane.stop, Lane.reset]

theorem Lane.Cleared.detach (L : Lane) (id : CmdId) (o : Option Tx) : (L.detach id o).Cleared := by
  cases o with
  | none => exact fun _ => rfl
  | some tx => exact .of_ne (by simp [Lane.detach])

theorem Lane.Cleared.frameEnd {L : Lane} (hL : L.Cleared) (l : Fin 16) (tx : Tx) (stopped : Bool)
    (o : FrameOutcome) : (L.frameEnd l tx stopped o).lane.Cleared := by
  by_cases hc : L.closed = false
  · exact .of_closed ((L.frameEnd_closed l tx stopped o).trans hc)
  by_cases hdet : L.state = .detached
  · rw [Lane.frameEnd_detached hdet]; exact hL
  · have hdetaching : L.state = .detaching := by
      by_contra hne
      exact hc ((Lane.closed_eq_false_iff L).2 ⟨hdet, hne⟩)
    rw [Lane.frameEnd_detaching hdetaching]
    exact fun _ => rfl

/-- A DETACHED lane offers no transaction (R75, R76). -/
theorem Lane.not_detached_of_choice {L : Lane} {c : Choice} (h : L.choice = some c) : L.state ≠ .detached := by
  intro hd
  simp [Lane.choice, hd] at h

theorem LaneStep.cleared {s t : State} {l : Fin 16} {M : Lane} (h : LaneStep s t l M) (hloads : s.LoadsOpen)
    (hL : s.lanes[l].Cleared) : M.Cleared := by
  cases h with
  | stays => exact hL
  | change M h => exact hL.change h
  | attach id b block x => exact .of_ne (by simp [Lane.attach])
  | detach id hs => exact .detach _ _ _
  | stop =>
    intro hd
    rw [hL hd, Lane.stop_reset]
  | grant c hc => exact .of_ne (by simpa using Lane.not_detached_of_choice hc)
  | frameEnd tx stopped out => exact hL.frameEnd l tx stopped out
  | commit load hx hl hst =>
    have hopen : s.lanes[l].closed = false := hl ▸ hloads.2 load hx
    exact .of_closed (Eq.trans (Lane.closed_of_state_eq (by simp only [Lane.commit])) hopen)
  | reset => exact fun _ => rfl

/-! ### Loads name open lanes (R123, R135) -/

theorem State.loadsOpen_iff (s : State) : s.LoadsOpen ↔ ∀ l, s.Loads l → s.lanes[l].closed = false := by
  constructor
  · rintro ⟨hq, ha⟩ l (⟨q, hmem, rfl⟩ | ⟨a, hmem, rfl⟩)
    · exact hq q hmem
    · exact ha a hmem
  · exact fun h => ⟨fun q hq => h _ (.inl ⟨q, hq, rfl⟩), fun a ha => h _ (.inr ⟨a, ha, rfl⟩)⟩

theorem State.Loads.of_queue {s t : State} {l : Fin 16} (hq : ∀ q ∈ t.loader.queue, q ∈ s.loader.queue)
    (ha : ∀ a ∈ t.loader.active, ∃ b ∈ s.loader.active, b.lane = a.lane) : t.Loads l → s.Loads l := by
  rintro (⟨q, hmem, rfl⟩ | ⟨a, hmem, rfl⟩)
  · exact .inl ⟨q, hq q hmem, rfl⟩
  · exact .inr (ha a hmem)

theorem State.Loads.of_nextLoad {s : State} {l : Fin 16} (h : s.nextLoad.Loads l) :
    ∃ q ∈ s.loader.queue, q.lane = l := by
  unfold State.nextLoad at h
  split at h
  · rename_i hnil
    obtain ⟨q, hq, -⟩ | ⟨a, ha, -⟩ := h
    · rw [show ({ s with loader := { s.loader with active := none, staging := Staging.reset } } : State).loader.queue
        = s.loader.queue from rfl, hnil] at hq
      cases hq
    · cases ha
  · rename_i q qs hcons
    rw [hcons]
    obtain ⟨x, hx, hl⟩ | ⟨a, ha, hl⟩ := h
    · exact ⟨x, List.mem_cons_of_mem _ hx, hl⟩
    · obtain rfl := Option.some.inj ha
      exact ⟨q, List.mem_cons_self, hl⟩

theorem State.Loads.of_endLoad {s : State} {l : Fin 16} (h : s.endLoad.Loads l) :
    ∃ q ∈ s.loader.queue, q.lane = l := by
  simpa using State.Loads.of_nextLoad h

/-- A load that an elementary change leaves was there before, or names an open lane. -/
theorem Change.loads {s t : State} (hc : Change s t) {l : Fin 16} (h : t.Loads l) :
    s.Loads l ∨ t.lanes = s.lanes ∧ s.lanes[l].closed = false := by
  cases hc with
  | registers t ht => exact .inl (.of_eq (by rw [ht]) h)
  | message b => exact .inl (.of_eq (by simp) h)
  | event e => exact .inl (.of_eq (by simp) h)
  | finish c => exact .inl (.of_eq (by simp) h)
  | enter u e hu => exact .inl (.of_eq (by simp [hu.loader_eq]) h)
  | enterFinished u e hu => exact .inl (.of_eq hu.loader_eq h)
  | refuseRecord u hu => exact .inl (.of_eq (by simp [hu.loader_eq]) h)
  | popFinished => exact .inl (.of_eq (by unfold State.popFinished; split <;> rfl) h)
  | startHead p =>
    exact .inl (.of_eq (by obtain h | ⟨x, xs, -, -, -, h⟩ := startHead_cases s p <;> rw [h]) h)
  | reset => exact .inl (.of_eq (by unfold State.controlReset; split_ifs <;> rfl) h)
  | clear => exact absurd h (by simp [State.Loads, State.cleared, State.reset, Loader.reset])
  | detachLoads m =>
    left
    unfold State.detachLoads at h
    have hsub : ∀ q ∈ s.loader.queue.filter fun q => decide (q.lane ≠ m), q ∈ s.loader.queue :=
      fun q hq => (List.mem_filter.1 hq).1
    cases ha : s.loader.active with
    | none =>
      rw [ha] at h
      refine .of_queue (s := s) ?_ ?_ h
      · exact hsub
      · exact fun a h' => ⟨a, h', rfl⟩
    | some a =>
      simp only [ha] at h
      split_ifs at h
      · exact .of_queue (s := s) hsub (by simp) h
      · obtain ⟨q, hq, hl⟩ := State.Loads.of_endLoad h
        exact .inl ⟨q, hsub q hq, hl⟩
      · refine .of_queue (s := s) ?_ ?_ h
        · exact hsub
        · exact fun b h' => ⟨b, ha ▸ h', rfl⟩
  | stopLoads =>
    left
    obtain hd | hd := stopLoads_cases s <;> rw [hd] at h
    · refine .of_queue (s := s) ?_ ?_ h
      · simp
      · exact fun b h' => ⟨b, h', rfl⟩
    · obtain ⟨q, hq, -⟩ := State.Loads.of_endLoad h
      cases hq
  | startLoad q hl =>
    obtain ⟨x, hx, rfl⟩ := State.Loads.of_nextLoad h
    obtain rfl := List.mem_singleton.1 hx
    exact .inr ⟨by simp, hl⟩
  | queueLoad q hl =>
    obtain ⟨x, hx, rfl⟩ | ha := h
    · obtain hx | hx := List.mem_append.1 hx
      · exact .inl (.inl ⟨x, hx, rfl⟩)
      · obtain rfl := List.mem_singleton.1 hx
        exact .inr ⟨rfl, hl⟩
    · exact .inl (.inr ha)
  | blockDropped a ts =>
    obtain ⟨q, hq, hl⟩ := State.Loads.of_nextLoad h
    exact .inl (.inl ⟨q, hq, hl⟩)
  | loadEnded a ts =>
    obtain ⟨q, hq, hl⟩ := State.Loads.of_nextLoad h
    exact .inl (.inl ⟨q, hq, hl⟩)
  | commitEnded load =>
    obtain ⟨q, hq, hl⟩ := State.Loads.of_nextLoad h
    exact .inl (.inl ⟨q, hq, hl⟩)
  | chainWhole a ts hts hd load hx =>
    refine .inl (.of_queue (s := s) ?_ ?_ h)
    · exact fun q hq => hq
    · exact fun b hb => ⟨load, hx, by obtain rfl := Option.some.inj hb; rfl⟩
  | askBlock a next ts hts hd load hx =>
    refine .inl (.of_queue (s := s) ?_ ?_ h)
    · exact fun q hq => hq
    · exact fun b hb => ⟨load, hx, by obtain rfl := Option.some.inj hb; rfl⟩
  | _ => exact .inl (.of_eq rfl h)

/-- An elementary change leaves an open lane open, unless it leaves no load of the lane. -/
theorem LaneStep.stays_open {s t : State} {l : Fin 16} {M : Lane} (h : LaneStep s t l M) (ht : t.Loads l)
    (hs : s.lanes[l].closed = false) : M.closed = false := by
  cases h with
  | stays => exact hs
  | change M h => exact h.closed_eq.trans hs
  | attach id b block x => simp [Lane.attach, Lane.closed]
  | detach id _ hl => exact absurd ht hl
  | stop => exact hs
  | grant c hc => exact (Lane.closed_of_state_eq (by simp)).trans hs
  | frameEnd tx stopped out => exact (Lane.frameEnd_closed _ _ _ _ _).trans hs
  | commit => exact (Lane.closed_of_state_eq (by simp only [Lane.commit])).trans hs
  | reset hl => exact absurd ht hl

theorem Change.keeps_loadsOpen {s t : State} (hc : Change s t) (h : s.LoadsOpen) : t.LoadsOpen := by
  rw [State.loadsOpen_iff] at h ⊢
  intro l hl
  obtain hs | ⟨hlanes, hs⟩ := hc.loads hl
  · exact (hc.laneStep l).stays_open hl (h l hs)
  · rw [hlanes]; exact hs

/-! ### The invariant -/

theorem Lane.imageOk_iff (L : Lane) : L.ImageOk ↔ L.ImageFits ∧ L.Cleared := by
  unfold Lane.ImageOk Lane.ImageFits Lane.Cleared
  tauto

theorem Lane.ImageFits.attach {id : CmdId} {b : Binding} {block : OptionBlock} {x : Options}
    (hx : optionsOver Options.default block = some x) : (Lane.reset.attach id b x).ImageFits := by
  refine ⟨Image.reset_queueExact, fun a _ => ?_, ?_⟩
  · rw [show (Lane.reset.attach id b x).image = Image.reset from rfl, Image.get_reset]
    exact Entry.ok_reset _
  · exact Options.Ranged.over (by simp [Options.Ranged, Options.default]) hx

theorem LaneStep.keeps_image {s t : State} {l : Fin 16} {M : Lane} (h : LaneStep s t l M)
    (hcl : s.lanes[l].Cleared) (hL : s.lanes[l].ImageFits) : M.ImageFits := by
  cases h with
  | stays => exact hL
  | change M h => exact h.keeps.1 hL
  | attach id b block x hs hx => rw [hcl hs]; exact .attach hx
  | detach id hs => exact (Lane.Keeps.detach _ _ _).1 hL
  | stop => exact (Lane.Keeps.stop _ _).1 hL
  | grant c hc => exact (Lane.Keeps.granted hc).1 hL
  | frameEnd tx stopped out => exact (Lane.Keeps.frameEnd _ _ _ _ _).1 hL
  | commit load hx hl hst => exact hL.commit _ _ _
  | reset => exact Lane.imageFits_reset

theorem Change.keeps_images {s t : State} (hc : Change s t) (h : ImageInv s) : ImageInv t := by
  obtain ⟨hlanes, hloads⟩ := h
  refine ⟨fun l => ?_, hc.keeps_loadsOpen hloads⟩
  obtain ⟨himage, hcleared⟩ := (Lane.imageOk_iff _).1 (hlanes l)
  have hstep := hc.laneStep l
  exact (Lane.imageOk_iff _).2 ⟨hstep.keeps_image hcleared himage, hstep.cleared hloads hcleared⟩

/-- Settles O6: each elementary change of a step keeps the lane images. -/
theorem stepKeepsImages : Obligations.StepKeepsImages := by
  unfold Obligations.StepKeepsImages
  intro s t hs ht
  exact (step_changes ht).keep (P := ImageInv) Change.keeps_images hs

end Sys2Proof.Machine
end

section
/-! The invariant of bindings, frames and the write in progress (spec/02, spec/03, spec/04). -/

namespace Sys2Proof.Machine

/-! ### No happening but a grant makes an entry PENDING (R11, R28) -/

theorem Entry.rederive_not_pending (e : Entry) : e.rederive.state ≠ .pending := by
  unfold Entry.rederive
  split
  · simp
  · split_ifs <;> simp

theorem Entry.pending_of_setLayers {e : Entry} {o : LayerOrder} {b h c : Option Byte}
    (hp : (e.setLayers o b h c).state = .pending) : e.state = .pending := by
  unfold Entry.setLayers Entry.reintend at hp
  split_ifs at hp with hv hs
  · exact hp
  · exact hs
  · exact absurd hp (Entry.rederive_not_pending _)

theorem Entry.endWrite_not_pending (e : Entry) (v : Option Byte) : (e.endWrite v).state ≠ .pending :=
  Entry.rederive_not_pending _

theorem Entry.endRefused_not_pending (e : Entry) (v : Option Byte) (r : RefusalReason) :
    (e.endRefused v r).state ≠ .pending := by
  unfold Entry.endRefused
  split_ifs
  · simp
  · exact e.endWrite_not_pending v

theorem Entry.pending_of_learn {e : Entry} {v : Option Byte} (hp : (e.learn v).state = .pending) :
    e.state = .pending := by
  by_cases hn : e.intended = none ∨ e.applied = v
  · rwa [Entry.learn_nothing hn] at hp
  obtain ⟨hi, hv⟩ := not_or.1 hn
  rw [Entry.learn_of hi hv] at hp
  cases hs : e.state <;> simp only [hs] at hp
  case unmanaged => exact absurd hp (by simp)
  case clean => exact absurd hp (Entry.rederive_not_pending _)
  case dirty => exact absurd hp (Entry.rederive_not_pending _)
  case refused => split_ifs at hp
  case pending => rfl

theorem Entry.pending_of_rebuild {e : Entry} (hp : e.rebuild.state = .pending) : e.state = .pending := by
  unfold Entry.rebuild at hp
  split at hp
  · exact hp
  · assumption
  · simp at hp

theorem Entry.pending_of_regSet {e : Entry} {o : LayerOrder} {layer : Byte} {v : Option Byte}
    (hp : (Entry.regSet o layer v e).state = .pending) : e.state = .pending := by
  unfold Entry.regSet at hp
  split_ifs at hp <;> exact Entry.pending_of_setLayers hp

/-- Every entry that is PENDING in `new` is PENDING in `old`. -/
def Image.NoneBegins (old new : Image) : Prop :=
  ∀ a, (new.get a).state = .pending → (old.get a).state = .pending

theorem Image.NoneBegins.refl (im : Image) : im.NoneBegins im := fun _ h => h

theorem Image.NoneBegins.trans {a b c : Image} (h : a.NoneBegins b) (h' : b.NoneBegins c) : a.NoneBegins c :=
  fun x hx => h x (h' x hx)

theorem Entry.reset_not_pending : Entry.reset.state ≠ .pending := by simp [Entry.reset]

theorem Image.mem_of_pending {im : Image} {a : Nat} (h : (im.get a).state = .pending) : a ∈ addresses := by
  by_contra ha
  rw [Image.get_out _ ha] at h
  exact Entry.reset_not_pending h

theorem Image.NoneBegins.mapEntries {im : Image} {f : Nat → Entry → Entry}
    (h : ∀ a e, (f a e).state = .pending → e.state = .pending) : im.NoneBegins (im.mapEntries f) := by
  intro a hp
  have ha := Image.mem_of_pending hp
  rw [Image.get_mapEntries _ _ ha] at hp
  exact h a _ hp

theorem Image.NoneBegins.modify {im : Image} {a : Nat} {f : Entry → Entry}
    (h : ∀ e, (f e).state = .pending → e.state = .pending) : im.NoneBegins (im.modify a f) := by
  refine Image.NoneBegins.mapEntries fun b e hp => ?_
  split_ifs at hp
  · exact h e hp
  · exact hp

theorem Image.NoneBegins.recall (im : Image) (o : LayerOrder) (t : List Column) (i : Option (Fin 32)) :
    im.NoneBegins (im.recall o t i) := .mapEntries fun _ _ => Entry.pending_of_setLayers

theorem Image.NoneBegins.rebuild (im : Image) : im.NoneBegins im.rebuild := by
  intro a hp
  have ha := Image.mem_of_pending hp
  rw [Image.get_rebuild _ ha] at hp
  exact Entry.pending_of_rebuild hp

theorem Image.get_cutShort_not_pending (im : Image) (a : Nat) : (im.cutShort.get a).state ≠ .pending := by
  intro hp
  have ha := Image.mem_of_pending hp
  rw [Image.cutShort, Image.get_mapEntries _ _ ha] at hp
  split_ifs at hp with h
  · exact Entry.endWrite_not_pending _ _ hp
  · exact h hp

theorem Image.NoneBegins.cutShort (im : Image) : im.NoneBegins im.cutShort :=
  fun a hp => absurd hp (im.get_cutShort_not_pending a)

/-- A happening at one entry that leaves it not PENDING. -/
theorem Image.modify_not_pending {im : Image} {a : Nat} {f : Entry → Entry} (h : ∀ e, (f e).state ≠ .pending) :
    im.NoneBegins (im.modify a f) ∧ ((im.modify a f).get a).state ≠ .pending := by
  refine ⟨.modify fun e hp => absurd hp (h e), fun hp => ?_⟩
  rw [Image.get_modify_self _ _ (Image.mem_of_pending hp)] at hp
  exact h _ hp

/-! ### What the end of a frame leaves of a lane -/

/-- The purpose is there in PROBING and the round in ACTIVE alone (Figure 3-1). -/
def Lane.Purposed (L : Lane) : Prop :=
  (L.purpose.isSome ↔ L.state = .probing) ∧ (L.round.isSome → L.state = .active)

/-- From `L` to `M` the binding stays, the items go with the state, and no write begins. -/
def Lane.Settles (L M : Lane) : Prop :=
  M.binding = L.binding ∧ (L.Purposed → M.Purposed) ∧ L.image.NoneBegins M.image

theorem Lane.Settles.refl (L : Lane) : L.Settles L := ⟨rfl, id, .refl _⟩

theorem Lane.Settles.trans {L M N : Lane} (h : L.Settles M) (h' : M.Settles N) : L.Settles N :=
  ⟨h'.1.trans h.1, h'.2.1 ∘ h.2.1, h.2.2.trans h'.2.2⟩

/-- The lane keeps its state, and its round or loses it. -/
theorem Lane.Settles.of_fields {L M : Lane} (hb : M.binding = L.binding) (hs : M.state = L.state)
    (hp : M.purpose = L.purpose) (hr : M.round.isSome → L.round.isSome) (him : L.image.NoneBegins M.image) :
    L.Settles M := by
  refine ⟨hb, fun h => ?_, him⟩
  unfold Lane.Purposed
  rw [hs, hp]
  exact ⟨h.1, fun hsome => h.2 (hr hsome)⟩

theorem Lane.Settles.image {L : Lane} {im : Image} (him : L.image.NoneBegins im) : L.Settles { L with image := im } :=
  .of_fields rfl rfl rfl id him

theorem Lane.Settles.settleRound (L : Lane) (o : Option Tx) : L.Settles (L.settleRound o) := by
  obtain ⟨hstay, hover⟩ := L.settleRound_spec o
  by_cases h : L.RoundGoesOn o
  · rw [hstay h]; exact .refl L
  · rw [hover h]; exact .of_fields rfl rfl rfl (by simp) (.refl _)

theorem Lane.Settles.setIndex (l : Fin 16) (L : Lane) (i : Option (Fin 32)) (c : IndexCause) (t : Option Byte) :
    L.Settles (L.setIndex l i c t).lane := by
  by_cases h : L.index = i
  · rw [Lane.setIndex_same h]; exact .refl L
  · rw [Lane.setIndex_of_ne h]
    exact .of_fields rfl rfl rfl id (.recall _ _ _ _)

theorem Lane.Settles.faulted {L M : Lane} (hb : M.binding = L.binding) (hs : M.state = .faulted)
    (hp : L.state = .active ∧ M.purpose = L.purpose ∨ M.purpose = none) (hr : M.round = none)
    (him : L.image.NoneBegins M.image) : L.Settles M := by
  refine ⟨hb, fun h => ?_, him⟩
  unfold Lane.Purposed
  rw [hs, hr]
  refine ⟨?_, by simp⟩
  obtain ⟨ha, hp⟩ | hp := hp
  · rw [hp, h.1, ha]; simp
  · rw [hp]; simp

theorem Lane.Settles.fail (l : Fin 16) (L : Lane) (tx : Tx) (f : Failure) : L.Settles (L.fail l tx f).lane := by
  unfold Lane.fail
  cases hs : L.state <;> simp only
  case active => exact .faulted rfl rfl (.inl ⟨hs, rfl⟩) rfl (.cutShort _)
  case probing => exact .faulted rfl rfl (.inr rfl) rfl (.refl _)
  all_goals exact .refl L

theorem Lane.Settles.retryOrFail (l : Fin 16) (L : Lane) (tx : Tx) (f : Failure) :
    L.Settles (L.retryOrFail l tx f).lane := by
  unfold Lane.retryOrFail
  split_ifs
  · exact .of_fields rfl rfl rfl id (.refl _)
  · exact .fail l L tx f

theorem Lane.Settles.probeEnd (L : Lane) (found : Bool) : L.Settles (L.probeEnd found).lane :=
  ⟨rfl, fun _ => ⟨by simp [Lane.probeEnd], fun _ => rfl⟩, .refl _⟩

theorem Lane.Settles.restart (l : Fin 16) (L : Lane) : L.Settles (L.restart l).lane :=
  .of_fields rfl rfl rfl id (.rebuild _)

theorem Lane.Settles.takeCheck (l : Fin 16) (L : Lane) (o : FrameOutcome) : L.Settles (L.takeCheck l o).lane := by
  cases o with
  | failed f => exact .retryOrFail l L .check f
  | done v =>
    by_cases hp : L.state = .probing
    · have h : L.Settles { L with checkDue := false } := .of_fields rfl rfl rfl id (.refl _)
      rw [Lane.takeCheck_probing hp]
      split_ifs
      · exact h.trans (.restart l _)
      · exact .of_fields rfl rfl rfl id (.refl _)
      · exact h.trans (.probeEnd _ false)
    by_cases ha : L.state = .active
    · have h : L.Settles (Lane.settleRound { L with checkDue := false, round := checkTaken L.round } none) :=
        Lane.Settles.trans (M := { L with checkDue := false, round := checkTaken L.round })
          ⟨rfl, fun h => ⟨h.1, fun _ => ha⟩, .refl _⟩ (.settleRound _ none)
      rw [Lane.takeCheck_active ha]
      split_ifs
      · exact h.trans (.restart l _)
      · exact h
    · rw [Lane.takeCheck_other hp ha]
      exact .refl L

theorem Lane.Settles.takeAck (l : Fin 16) (L : Lane) (o : FrameOutcome) : L.Settles (L.takeAck l o).lane := by
  unfold Lane.takeAck
  cases o with
  | failed f => exact .retryOrFail l L .ack f
  | done v =>
    have h : L.Settles { L with ackDue := false } := .of_fields rfl rfl rfl id (.refl _)
    simp only
    split_ifs
    · exact h.trans (.probeEnd _ true)
    · exact h

/-- No verdict on a write makes an entry PENDING. -/
theorem Lane.writeVerdict_noneBegins (l : Fin 16) (L : Lane) (tx : Tx) (o : FrameOutcome) :
    L.image.NoneBegins ((L.writeVerdict l tx o).imageOr L.image) := by
  have hfailed (a : Nat) (tx : Tx) : L.image.NoneBegins ((L.writeFailed a tx).imageOr L.image) := by
    unfold Lane.writeFailed
    split_ifs
    · exact .modify fun _ h => h
    · exact (Image.modify_not_pending fun e => e.endWrite_not_pending _).1
  unfold Lane.writeVerdict
  split_ifs with hp
  swap
  · exact .refl _
  cases tx
  case wb a v =>
    unfold Lane.wbVerdict
    rcases o with v' | (_ | _ | _) <;> simp only
    · split_ifs
      · exact .refl _
      · exact (Image.modify_not_pending fun e => e.endWrite_not_pending _).1
    · exact (Image.modify_not_pending fun e => e.endRefused_not_pending _ _).1
    · exact hfailed a _
    · exact hfailed a _
  case verify a =>
    unfold Lane.verifyVerdict
    rcases o with v' | (_ | _ | _) <;> simp only
    · split_ifs
      · exact (Image.modify_not_pending fun e => e.endWrite_not_pending _).1
      · exact .modify fun _ h => h
      · exact (Image.modify_not_pending fun e => e.endRefused_not_pending _ _).1
    · exact (Image.modify_not_pending fun e => e.endRefused_not_pending _ _).1
    · exact hfailed a _
    · exact hfailed a _
  all_goals exact .refl _

theorem Lane.Settles.takeWrite (l : Fin 16) (L : Lane) (tx : Tx) (o : FrameOutcome) :
    L.Settles (L.takeWrite l tx o).lane := by
  have hv := Lane.writeVerdict_noneBegins l L tx o
  unfold Lane.takeWrite
  cases h : L.writeVerdict l tx o with
  | verifyDue => exact .of_fields rfl rfl rfl id (.refl _)
  | again tx' im => rw [h] at hv; exact .of_fields rfl rfl rfl id hv
  | ended im evs => rw [h] at hv; exact .image hv
  | exhausted im => rw [h] at hv; exact (Lane.Settles.image hv).trans (.fail l _ tx _)

theorem Lane.Settles.pollEffect (l : Fin 16) (L : Lane) (i : Fin 8) (o : FrameOutcome) :
    L.Settles (L.pollEffect l i o).lane := by
  unfold Lane.pollEffect
  split_ifs
  · exact .refl L
  rcases o with v | (_ | _ | _)
  · have hc : L.Settles { L with watches := L.watches.set i (L.watches[i].compare L.options v) } :=
      .of_fields rfl rfl rfl id (.refl _)
    simp only [Lane.takeReading]
    split_ifs
    · refine hc.trans ?_
      unfold Lane.handOff
      split
      · exact .refl _
      · exact .setIndex l _ _ _ _
    · exact hc
  · exact .of_fields rfl rfl rfl id (.refl _)
  · exact .refl L
  · exact .refl L

theorem Lane.Settles.movePosition (L : Lane) (i : Fin 8) : L.Settles (L.movePosition i) :=
  Lane.Settles.trans (M := { L with round := L.round.map fun _ => .polling (some i), stalePoll := false })
    (.of_fields rfl rfl rfl (by simp) (.refl _)) (.settleRound _ none)

theorem Lane.Settles.takePoll (l : Fin 16) (L : Lane) (i : Fin 8) (addr : Nat) (o : FrameOutcome) :
    L.Settles (L.takePoll l i addr o).lane := by
  unfold Lane.takePoll
  rcases o with v | (_ | _ | _)
  · exact (Lane.Settles.pollEffect l L i _).trans (.movePosition _ i)
  · exact (Lane.Settles.pollEffect l L i _).trans (.movePosition _ i)
  · exact .retryOrFail l L _ _
  · exact .retryOrFail l L _ _

theorem DirectReq.image_noneBegins (r : DirectReq) (o : FrameOutcome) (im : Image) :
    im.NoneBegins (r.image o im) := by
  have hlearn (v : Option Byte) : im.NoneBegins (im.modify r.addr (Entry.learn v)) :=
    .modify fun _ => Entry.pending_of_learn
  unfold DirectReq.image
  split
  · exact hlearn _
  · exact hlearn _
  · exact .refl _
  · exact .refl _
  · exact .refl _
  · exact hlearn _
  · exact hlearn _

theorem Lane.Settles.takeDirect (L : Lane) (stopped : Bool) (o : FrameOutcome) :
    L.Settles (L.takeDirect stopped o).lane := by
  unfold Lane.takeDirect
  split
  · exact .refl L
  · rename_i r rest _
    split_ifs
    · exact .of_fields rfl rfl rfl id (.refl _)
    · exact .of_fields rfl rfl rfl id (.refl _)
    · exact .of_fields rfl rfl rfl id (r.image_noneBegins o _)

theorem Lane.Settles.takeOutcome (l : Fin 16) (L : Lane) (tx : Tx) (stopped : Bool) (o : FrameOutcome) :
    L.Settles (L.takeOutcome l tx stopped o).lane := by
  unfold Lane.takeOutcome
  cases tx
  case check => exact .takeCheck l L o
  case ack => exact .takeAck l L o
  case wb a v => exact .takeWrite l L _ o
  case verify a => exact .takeWrite l L _ o
  case poll i a => exact .takePoll l L i a o
  case directRead a => exact .takeDirect L stopped o
  case directWrite a v => exact .takeDirect L stopped o

theorem Lane.Settles.settleSync (o : LaneOut) : o.lane.Settles o.settleSync.lane := by
  obtain he | he := settleSync_lane o <;> rw [he]
  · exact .refl _
  · exact .of_fields rfl rfl rfl id (.refl _)

/-! ### The write in progress -/

/-- No entry of the lane is PENDING. -/
def Lane.NoPending (L : Lane) : Prop := ∀ a, (L.image.get a).state ≠ .pending

theorem Lane.NoPending.onePending {L : Lane} (h : L.NoPending) : L.OnePending :=
  fun a _ hp => absurd hp (h a)

theorem Lane.NoPending.writeLives {L : Lane} (h : L.NoPending) : L.WriteLives none :=
  ⟨by simp, fun a _ hp => absurd hp (h a)⟩

theorem Lane.NoPending.begins {L M : Lane} (h : L.NoPending) (hb : L.image.NoneBegins M.image) : M.NoPending :=
  fun a hp => h a (hb a hp)

theorem Lane.noPending_of_state {L : Lane} (h : L.OnePending)
    (hs : L.state ≠ .active ∧ L.state ≠ .quiescing ∧ L.state ≠ .detaching) : L.NoPending := by
  intro a hp
  obtain ⟨ha | hq | hd, -⟩ := h a (Image.mem_of_pending hp) hp
  · exact hs.1 ha
  · exact hs.2.1 hq
  · exact hs.2.2 hd

/-- With a frame of another kind in flight no write is in progress (R28). -/
theorem Lane.noPending_of_not_write {L : Lane} {tx : Tx} (h : L.WriteLives (some tx)) (hw : ∀ a, ¬ tx.writes a) :
    L.NoPending := by
  intro a hp
  obtain ⟨tx', he, hwr⟩ | ⟨hn, -⟩ := h.2 a (Image.mem_of_pending hp) hp
  · obtain rfl := Option.some.inj he
    exact hw a hwr
  · cases hn

theorem Tx.writes_iff {tx : Tx} {a : Nat} : tx.writes a ↔ (∃ v, tx = .wb a v) ∨ tx = .verify a := by
  cases tx <;> simp [Tx.writes]

theorem Tx.addr_of_writes {tx : Tx} {a : Nat} (h : tx.writes a) : tx.addr = a := by
  rcases Tx.writes_iff.1 h with ⟨v, rfl⟩ | rfl <;> rfl

/-- What a verdict leaves of the write of address `a`: a repetition is of it, and an end leaves it not
PENDING. -/
def WriteVerdict.Ends (a : Nat) : WriteVerdict → Prop
  | .verifyDue => True
  | .again tx _ => tx.writes a
  | .ended im _ => (im.get a).state ≠ .pending
  | .exhausted im => (im.get a).state ≠ .pending

theorem Lane.writeFailed_ends (L : Lane) (a : Nat) {tx : Tx} (h : tx.writes a) : (L.writeFailed a tx).Ends a := by
  unfold Lane.writeFailed
  split_ifs
  · exact h
  · exact (Image.modify_not_pending fun e => e.endWrite_not_pending _).2

theorem Lane.writeVerdict_ends (l : Fin 16) (L : Lane) {tx : Tx} {a : Nat} (hw : tx.writes a) (o : FrameOutcome) :
    (L.writeVerdict l tx o).Ends a := by
  have haddr : tx.addr = a := Tx.addr_of_writes hw
  unfold Lane.writeVerdict
  split_ifs with hp
  swap
  · rw [haddr] at hp; exact hp
  cases tx
  case wb b v =>
    obtain rfl : b = a := hw
    unfold Lane.wbVerdict
    rcases o with v' | (_ | _ | _) <;> simp only
    · split_ifs
      · trivial
      · exact (Image.modify_not_pending fun e => e.endWrite_not_pending _).2
    · exact (Image.modify_not_pending fun e => e.endRefused_not_pending _ _).2
    · exact L.writeFailed_ends b rfl
    · exact L.writeFailed_ends b rfl
  case verify b =>
    obtain rfl : b = a := hw
    unfold Lane.verifyVerdict
    rcases o with v' | (_ | _ | _) <;> simp only
    · split_ifs
      · exact (Image.modify_not_pending fun e => e.endWrite_not_pending _).2
      · exact rfl
      · exact (Image.modify_not_pending fun e => e.endRefused_not_pending _ _).2
    · exact (Image.modify_not_pending fun e => e.endRefused_not_pending _ _).2
    · exact L.writeFailed_ends b rfl
    · exact L.writeFailed_ends b rfl
  all_goals exact absurd hw id

/-- With a write's frame in flight no other entry is PENDING (R28). -/
theorem Lane.WriteLives.only {L : Lane} {tx : Tx} {a : Nat} (hL : L.WriteLives (some tx)) (hw : tx.writes a)
    {b : Nat} (hp : (L.image.get b).state = .pending) : b = a := by
  obtain ⟨tx', he, hwr⟩ | ⟨hn, -⟩ := hL.2 b (Image.mem_of_pending hp) hp
  · obtain rfl := Option.some.inj he
    rcases Tx.writes_iff.1 hw with ⟨v, rfl⟩ | rfl <;> exact hwr.symm
  · cases hn

/-- The end of a write's frame: the write goes on, or no entry is PENDING (R31 to R38). -/
theorem Lane.takeWrite_lives {l : Fin 16} {L : Lane} {tx : Tx} {a : Nat} (hw : tx.writes a)
    (hL : L.WriteLives (some tx)) (hs : L.state = .active) (hone : L.OnePending) (o : FrameOutcome) :
    (L.takeWrite l tx o).lane.OnePending ∧ (L.takeWrite l tx o).lane.WriteLives none := by
  have honly (b : Nat) (hp : (L.image.get b).state = .pending) : b = a := hL.only hw hp
  have hretry : L.retryDue = none := hL.1 rfl
  have hbegins := Lane.writeVerdict_noneBegins l L tx o
  have hends := Lane.writeVerdict_ends l L hw o
  have hnone (im : Image) (hb : L.image.NoneBegins im) (he : (im.get a).state ≠ .pending) :
      ∀ b, (im.get b).state ≠ .pending := fun b hp => by
    rw [honly b (hb b hp)] at hp
    exact he hp
  unfold Lane.takeWrite
  cases h : L.writeVerdict l tx o with
  | verifyDue =>
    exact ⟨hone, by simp, fun b _ hp => .inr ⟨rfl, hs, .inr ⟨hretry, rfl⟩⟩⟩
  | again tx' im =>
    rw [h] at hbegins hends
    refine ⟨fun b _ hp => ⟨.inl hs, fun c _ hc => ?_⟩, by simp, fun b _ hp => .inr ⟨rfl, hs, .inl ⟨tx', rfl, ?_⟩⟩⟩
    · exact (honly c (hbegins c hc)).trans (honly b (hbegins b hp)).symm
    · rw [honly b (hbegins b hp)]; exact hends
  | ended im evs =>
    rw [h] at hbegins hends
    have hno : Lane.NoPending { L with image := im } := hnone im hbegins hends
    exact ⟨hno.onePending, hno.writeLives⟩
  | exhausted im =>
    rw [h] at hbegins hends
    have hno : Lane.NoPending { L with image := im } := hnone im hbegins hends
    have hfail := hno.begins (Lane.Settles.fail l { L with image := im } tx (o.failure.getD .noResponse)).2.2
    exact ⟨hfail.onePending, hfail.writeLives⟩

theorem Lane.pending_congr {L M : Lane} (him : M.image = L.image) (hs : M.state = L.state)
    (hr : M.retryDue = L.retryDue) (hv : M.verifyDue = L.verifyDue) {o : Option Tx} :
    (M.OnePending ↔ L.OnePending) ∧ (M.WriteLives o ↔ L.WriteLives o) := by
  unfold Lane.OnePending Lane.WriteLives
  rw [him, hs, hr, hv]
  exact ⟨Iff.rfl, Iff.rfl⟩

/-- The end of a frame of a lane that is neither closed nor QUIESCING. -/
theorem Lane.takeOutcome_lives {l : Fin 16} {L : Lane} {tx : Tx} (hL : L.WriteLives (some tx))
    (hopen : L.closed = false) (hq : L.state ≠ .quiescing) (hone : L.OnePending) (stopped : Bool)
    (o : FrameOutcome) :
    (L.takeOutcome l tx stopped o).lane.OnePending ∧ (L.takeOutcome l tx stopped o).lane.WriteLives none := by
  by_cases hw : ∃ a, tx.writes a
  · obtain ⟨a, hw⟩ := hw
    by_cases hs : L.state = .active
    · have htake : L.takeOutcome l tx stopped o = L.takeWrite l tx o := by
        rcases Tx.writes_iff.1 hw with ⟨v, rfl⟩ | rfl <;> rfl
      rw [htake]
      exact Lane.takeWrite_lives hw hL hs hone o
    · have hno := Lane.noPending_of_state hone
        ⟨hs, hq, ((Lane.closed_eq_false_iff L).1 hopen).2⟩
      have h := hno.begins (Lane.Settles.takeOutcome l L tx stopped o).2.2
      exact ⟨h.onePending, h.writeLives⟩
  · have hno := Lane.noPending_of_not_write hL (not_exists.1 hw)
    have h := hno.begins (Lane.Settles.takeOutcome l L tx stopped o).2.2
    exact ⟨h.onePending, h.writeLives⟩

/-- The image that a QUIESCING lane makes of a verdict on its write: one that would go on is cut short (R40). -/
def WriteVerdict.shortened (a : Nat) (im : Image) : WriteVerdict → Image
  | .verifyDue => im.modify a (Entry.endWrite none)
  | .again _ im' => im'.modify a (Entry.endWrite none)
  | .ended im' _ => im'
  | .exhausted im' => im'

theorem Lane.quiesceOutcome_write {l : Fin 16} {L : Lane} {tx : Tx} {a : Nat} (hw : tx.writes a) (stopped : Bool)
    (o : FrameOutcome) : (L.quiesceOutcome l tx stopped o).1.lane =
      { L with image := (L.writeVerdict l tx o).shortened a L.image } := by
  cases tx
  case wb b v =>
    obtain rfl : b = a := hw
    simp only [Lane.quiesceOutcome]
    cases L.writeVerdict l (.wb b v) o <;> rfl
  case verify b =>
    obtain rfl : b = a := hw
    simp only [Lane.quiesceOutcome]
    cases L.writeVerdict l (.verify b) o <;> rfl
  all_goals exact absurd hw id

/-- A write cut short or ended begins no other, and is not PENDING any more. -/
theorem Lane.shortened_ends (l : Fin 16) (L : Lane) {tx : Tx} {a : Nat} (hw : tx.writes a) (o : FrameOutcome) :
    L.image.NoneBegins ((L.writeVerdict l tx o).shortened a L.image) ∧
      (((L.writeVerdict l tx o).shortened a L.image).get a).state ≠ .pending := by
  have hbegins := Lane.writeVerdict_noneBegins l L tx o
  have hends := Lane.writeVerdict_ends l L hw o
  have hshort (im : Image) : im.NoneBegins (im.modify a (Entry.endWrite none)) ∧
      ((im.modify a (Entry.endWrite none)).get a).state ≠ .pending :=
    Image.modify_not_pending fun e => e.endWrite_not_pending _
  cases h : L.writeVerdict l tx o <;> rw [h] at hbegins hends
  · exact hshort _
  · exact ⟨hbegins.trans (hshort _).1, (hshort _).2⟩
  · exact ⟨hbegins, hends⟩
  · exact ⟨hbegins, hends⟩

theorem Lane.quiesceOutcome_settles (l : Fin 16) (L : Lane) (tx : Tx) (stopped : Bool) (o : FrameOutcome) :
    L.Settles (L.quiesceOutcome l tx stopped o).1.lane := by
  by_cases hw : ∃ a, tx.writes a
  · obtain ⟨a, hw⟩ := hw
    rw [Lane.quiesceOutcome_write hw]
    exact .image (L.shortened_ends l hw o).1
  cases tx
  case check => exact .refl L
  case ack => exact .of_fields rfl rfl rfl id (.refl _)
  case poll i a => exact .pollEffect l L i o
  case directRead a => exact .takeDirect L stopped o
  case directWrite a v => exact .takeDirect L stopped o
  all_goals exact absurd ⟨_, rfl⟩ hw

/-- A QUIESCING lane's frame ends its write (R40, R60). -/
theorem Lane.quiesceOutcome_noPending {l : Fin 16} {L : Lane} {tx : Tx} (hL : L.WriteLives (some tx)) (stopped : Bool)
    (o : FrameOutcome) : (L.quiesceOutcome l tx stopped o).1.lane.NoPending := by
  by_cases hw : ∃ a, tx.writes a
  · obtain ⟨a, hw⟩ := hw
    obtain ⟨hbegins, hends⟩ := L.shortened_ends l hw o
    rw [Lane.quiesceOutcome_write hw]
    intro b hp
    rw [hL.only hw (hbegins b hp)] at hp
    exact hends hp
  · have hno := Lane.noPending_of_not_write hL (not_exists.1 hw)
    exact hno.begins (Lane.quiesceOutcome_settles l L tx stopped o).2.2

/-! ### Changes at a lane that leave its frame -/

/-- What the changes at a lane with the frame `o` in flight keep of binding, state and write. -/
def Lane.KeepsLink (o : Option Tx) (L M : Lane) : Prop :=
  M.binding = L.binding ∧ M.attached = L.attached ∧ (L.Shaped ∧ L.OnePending → M.Shaped ∧ M.OnePending) ∧
    (L.OnePending → L.WriteLives o → M.WriteLives o)

theorem Lane.shaped_iff (L : Lane) :
    L.Shaped ↔ L.Cleared ∧ (L.state ≠ .detached → L.binding.isSome) ∧ L.Purposed := by
  unfold Lane.Shaped Lane.Cleared Lane.Purposed
  tauto

theorem Lane.attached_of_state_eq {L M : Lane} (h : M.state = L.state) : M.attached = L.attached := by
  simp only [Lane.attached, h]

/-- The lane keeps its state, its link fields and its due work; no write begins. -/
theorem Lane.KeepsLink.of_fields {o : Option Tx} {L M : Lane} (h : L.Settles M) (hs : M.state = L.state)
    (hcl : L.Cleared → M.Cleared) (hr : M.retryDue = L.retryDue) (hv : M.verifyDue = L.verifyDue) :
    L.KeepsLink o M := by
  obtain ⟨hb, hp, him⟩ := h
  refine ⟨hb, Lane.attached_of_state_eq hs, fun ⟨hshape, hone⟩ => ⟨?_, fun a ha hpend => ?_⟩,
    fun _ hw => ⟨fun ho => hr.trans (hw.1 ho), fun a ha hpend => ?_⟩⟩
  · rw [Lane.shaped_iff] at hshape ⊢
    exact ⟨hcl hshape.1, by rw [hs, hb]; exact hshape.2.1, hp hshape.2.2⟩
  · rw [hs]
    obtain ⟨hstate, honly⟩ := hone a ha (him a hpend)
    exact ⟨hstate, fun b hb' hpb => honly b hb' (him b hpb)⟩
  · rw [hs, hr, hv]
    exact hw.2 a ha (him a hpend)

theorem Lane.KeepsLink.refl (o : Option Tx) (L : Lane) : L.KeepsLink o L :=
  .of_fields (.refl L) rfl id rfl rfl

theorem Lane.Settles.pollTick (L : Lane) (o : Option Tx) : L.Settles (L.pollTick o) := by
  unfold Lane.pollTick
  split_ifs with ha
  · have h := Lane.Settles.settleRound L o
    refine h.trans ?_
    simp only
    split
    · exact ⟨rfl, fun hp => ⟨hp.1, fun _ => by simpa using ha⟩, .refl _⟩
    · exact .of_fields rfl rfl rfl id (.refl _)
  · exact .refl L

theorem Lane.settleRound_due (L : Lane) (o : Option Tx) :
    (L.settleRound o).retryDue = L.retryDue ∧ (L.settleRound o).verifyDue = L.verifyDue := by
  obtain ⟨hstay, hover⟩ := L.settleRound_spec o
  by_cases h : L.RoundGoesOn o
  · rw [hstay h]; exact ⟨rfl, rfl⟩
  · rw [hover h]; exact ⟨rfl, rfl⟩

theorem Lane.pollTick_due (L : Lane) (o : Option Tx) :
    (L.pollTick o).retryDue = L.retryDue ∧ (L.pollTick o).verifyDue = L.verifyDue := by
  unfold Lane.pollTick
  split_ifs
  · simp only
    split <;> exact L.settleRound_due o
  · exact ⟨rfl, rfl⟩

theorem Lane.setIndex_due (l : Fin 16) (L : Lane) (i : Option (Fin 32)) (c : IndexCause) (t : Option Byte) :
    (L.setIndex l i c t).lane.retryDue = L.retryDue ∧ (L.setIndex l i c t).lane.verifyDue = L.verifyDue := by
  by_cases h : L.index = i
  · rw [Lane.setIndex_same h]; exact ⟨rfl, rfl⟩
  · rw [Lane.setIndex_of_ne h]; simp only [and_self]

theorem Lane.KeepsLink.quiesce {L : Lane} (hs : L.state = .active) (id : CmdId) (o : Option Tx) :
    L.KeepsLink o (L.quiesce id o).lane := by
  have hbinding : (L.quiesce id o).lane.binding = L.binding := by cases o <;> rfl
  have hround : (L.quiesce id o).lane.round = none := by cases o <;> rfl
  have hpurpose : (L.quiesce id o).lane.purpose = L.purpose := by cases o <;> rfl
  have hstate := L.quiesce_state id o
  have hne : (L.quiesce id o).lane.state ≠ .detached ∧ (L.quiesce id o).lane.state ≠ .probing := by
    rw [hstate]; split_ifs <;> simp
  refine ⟨hbinding, by simp [Lane.attached, hs, hne.1], fun ⟨hshape, hone⟩ => ⟨?_, ?_⟩, fun hone hw => ?_⟩
  · obtain ⟨-, hb, hp⟩ := (Lane.shaped_iff L).1 hshape
    refine (Lane.shaped_iff _).2 ⟨.of_ne hne.1, fun _ => by rw [hbinding]; exact hb (by simp [hs]), ?_, ?_⟩
    · rw [hpurpose, hp.1, hs]; simp [hne.2]
    · rw [hround]; simp
  · cases o with
    | none => exact Lane.NoPending.onePending L.image.get_cutShort_not_pending
    | some tx => exact fun a ha hpend => ⟨.inr (.inl rfl), (hone a ha hpend).2⟩
  · cases o with
    | none => exact Lane.NoPending.writeLives L.image.get_cutShort_not_pending
    | some tx =>
      have hretry : L.retryDue = none := hw.1 rfl
      refine ⟨fun _ => ?_, fun a ha hpend => ?_⟩
      · simp [Lane.quiesce, Lane.quiesceDrop, Lane.out, hretry]
      · obtain h | ⟨hn, -⟩ := hw.2 a ha hpend
        · exact .inl h
        · cases hn

theorem Lane.KeepsLink.resume {L : Lane} (hs : L.state = .quiesced ∨ L.state = .faulted) (id : CmdId)
    (o : Option Tx) : L.KeepsLink o (L.resume id) := by
  have hno (h : L.OnePending) : (L.resume id).NoPending :=
    Lane.noPending_of_state (L := L) h (by obtain hs | hs := hs <;> simp [hs])
  have hd : L.state ≠ .detached := by obtain hs | hs := hs <;> simp [hs]
  have hna : L.state ≠ .active := by obtain hs | hs := hs <;> simp [hs]
  refine ⟨rfl, by simp [Lane.attached, Lane.resume, hd], fun ⟨hshape, hone⟩ => ⟨?_, (hno hone).onePending⟩,
    fun hone hw => ⟨fun _ => rfl, fun a _ hp => absurd hp (hno hone a)⟩⟩
  obtain ⟨-, hb, hp⟩ := (Lane.shaped_iff L).1 hshape
  exact (Lane.shaped_iff _).2 ⟨.of_ne (by simp [Lane.resume]), fun _ => hb hd, by simp [Lane.resume],
    fun hr => absurd (hp.2 hr) hna⟩

theorem Lane.Change.keepsLink {o : Option Tx} {L M : Lane} (h : Lane.Change o L M) : L.KeepsLink o M := by
  have hcl := Lane.Cleared.change h
  cases h with
  | waiters => exact .of_fields (.of_fields rfl rfl rfl id (.refl _)) rfl hcl rfl rfl
  | direct => exact .of_fields (.of_fields rfl rfl rfl id (.refl _)) rfl hcl rfl rfl
  | quiesce id hs => exact .quiesce hs id o
  | resume id hs => exact .resume hs id o
  | options b x hc hx =>
    refine .of_fields (.of_fields rfl rfl rfl id ?_) rfl hcl rfl rfl
    unfold Lane.setOptions
    simp only
    split_ifs
    · exact .refl _
    · exact .mapEntries fun _ _ => Entry.pending_of_setLayers
  | layer a layer v =>
    exact .of_fields (.of_fields rfl rfl rfl id (.modify fun _ => Entry.pending_of_regSet)) rfl hcl rfl rfl
  | watch r i w => exact .of_fields (.of_fields rfl rfl rfl id (.refl _)) rfl hcl rfl rfl
  | flags wm fm => exact .of_fields (.of_fields rfl rfl rfl id (.refl _)) rfl hcl rfl rfl
  | index l i c t =>
    obtain ⟨hr, hv⟩ := L.setIndex_due l i c t
    exact .of_fields (.setIndex l L i c t) (L.setIndex_state l i c t) hcl hr hv
  | clearTable => exact .of_fields (.of_fields rfl rfl rfl id (.recall _ _ _ _)) rfl hcl rfl rfl
  | timer => exact .of_fields (.of_fields rfl rfl rfl id (.refl _)) rfl hcl rfl rfl
  | tick =>
    obtain ⟨hr, hv⟩ := L.pollTick_due o
    exact .of_fields (.pollTick L o) (L.pollTick_state o) hcl hr hv

theorem Lane.KeepsLink.commit (L : Lane) (o : Option Tx) (hopen : L.closed = false) (mode : LoadMode) (st : Staging) :
    L.KeepsLink o (L.commit o mode st) := by
  have hs : (L.commit o mode st).state = L.state := by simp only [Lane.commit]
  refine .of_fields (.of_fields (by simp only [Lane.commit]) hs (by simp only [Lane.commit])
    (by simp only [Lane.commit]; exact id) ?_) hs (fun _ => .of_closed ((Lane.closed_of_state_eq hs).trans hopen))
    (by simp only [Lane.commit]) (by simp only [Lane.commit])
  rw [commit_image]
  exact .mapEntries fun _ _ => Entry.pending_of_setLayers

theorem Tx.isDirect_of_writes {tx : Tx} {a : Nat} (h : tx.writes a) : tx.isDirect = false := by
  rcases Tx.writes_iff.1 h with ⟨v, rfl⟩ | rfl <;> rfl

/-- STOP ends no write: what it takes of the due retry is a direct request's (R68, R89). -/
theorem Lane.KeepsLink.stop (L : Lane) (o : Option Tx) : L.KeepsLink o (L.stop o) := by
  refine ⟨rfl, rfl, fun ⟨hshape, hone⟩ => ⟨⟨fun hd => ?_, hshape.2⟩, hone⟩,
    fun _ hw => ⟨fun ho => ?_, fun a ha hpend => ?_⟩⟩
  · rw [hshape.1 hd, Lane.stop_reset]
  · simp [Lane.stop, hw.1 ho]
  · refine (hw.2 a ha hpend).imp_right fun ⟨hn, hs, hdue⟩ => ⟨hn, hs, ?_⟩
    obtain ⟨tx, htx, hwr⟩ | ⟨hr, hv⟩ := hdue
    · exact .inl ⟨tx, by simp [Lane.stop, htx, Tx.isDirect_of_writes hwr], hwr⟩
    · exact .inr ⟨by simp [Lane.stop, hr], hv⟩

end Sys2Proof.Machine
end

section
/-! The invariant of bindings, frames and the write in progress under every elementary change. -/

namespace Sys2Proof.Machine

/-! ### The end of a frame, at its lane -/

theorem Lane.shaped_reset : Lane.reset.Shaped := by
  rw [Lane.shaped_iff]
  exact ⟨fun _ => rfl, by simp [Lane.reset], by simp [Lane.Purposed, Lane.reset]⟩

theorem Lane.noPending_reset : Lane.reset.NoPending := by
  intro a
  rw [show Lane.reset.image = Image.reset from rfl, Image.get_reset]
  exact Entry.reset_not_pending

theorem LaneOut.settleSync_lives (o : LaneOut) :
    (o.settleSync.lane.OnePending ↔ o.lane.OnePending) ∧
      (o.settleSync.lane.WriteLives none ↔ o.lane.WriteLives none) := by
  obtain he | he := settleSync_lane o <;> rw [he]
  · exact ⟨Iff.rfl, Iff.rfl⟩
  · exact Lane.pending_congr rfl rfl rfl rfl

theorem Lane.quiesceOutcome_state (l : Fin 16) (L : Lane) (tx : Tx) (stopped : Bool) (o : FrameOutcome) :
    (L.quiesceOutcome l tx stopped o).1.lane.state = L.state := by
  by_cases hw : ∃ a, tx.writes a
  · obtain ⟨a, hw⟩ := hw
    rw [Lane.quiesceOutcome_write hw]
  cases tx
  case poll i a => exact L.pollEffect_state l i o
  case directRead a => exact L.takeDirect_state stopped o
  case directWrite a v => exact L.takeDirect_state stopped o
  case check => rfl
  case ack => rfl
  all_goals exact absurd ⟨_, rfl⟩ hw

/-- The end of a lane's frame leaves the lane as the invariant has it, with no frame in flight (R80). -/
theorem Lane.frameEnd_link {L : Lane} {tx : Tx} (hshape : L.Shaped) (hone : L.OnePending)
    (hw : L.WriteLives (some tx)) (hatt : L.state ≠ .detached) (l : Fin 16) (stopped : Bool) (o : FrameOutcome)
    {M : Lane} (hM : M = (L.frameEnd l tx stopped o).lane) :
    (M.Shaped ∧ M.OnePending) ∧ M.WriteLives none ∧
      (M = Lane.reset ∨ M.binding = L.binding ∧ M.state ≠ .detached) := by
  obtain ⟨-, hbind, hpurp⟩ := (Lane.shaped_iff L).1 hshape
  by_cases hdet : L.state = .detaching
  · rw [Lane.frameEnd_detaching hdet] at hM
    obtain rfl : M = Lane.reset := hM
    exact ⟨⟨Lane.shaped_reset, Lane.noPending_reset.onePending⟩, Lane.noPending_reset.writeLives, .inl rfl⟩
  by_cases hq : L.state = .quiescing
  · obtain ⟨hb, hp, -⟩ := Lane.quiesceOutcome_settles l L tx stopped o
    have hpurp' := hp hpurp
    unfold Lane.Purposed at hpurp'
    rw [Lane.quiesceOutcome_state, hq] at hpurp'
    rw [Lane.frameEnd_quiescing hq] at hM
    have hno : M.NoPending := by rw [hM]; exact Lane.quiesceOutcome_noPending hw stopped o
    have hMb : M.binding = L.binding := by rw [hM]; exact hb
    have hMs : M.state = .quiesced := by rw [hM]; rfl
    refine ⟨⟨(Lane.shaped_iff M).2 ⟨.of_ne (by simp [hMs]), fun _ => hMb ▸ hbind hatt, ?_⟩, hno.onePending⟩,
      hno.writeLives, .inr ⟨hMb, by simp [hMs]⟩⟩
    have hMp : M.purpose = (L.quiesceOutcome l tx stopped o).1.lane.purpose := by rw [hM]; rfl
    have hMr : M.round = (L.quiesceOutcome l tx stopped o).1.lane.round := by rw [hM]; rfl
    unfold Lane.Purposed
    rw [hMs, hMp, hMr]
    simpa using hpurp'
  · have hopen := (Lane.closed_eq_false_iff L).2 ⟨hatt, hdet⟩
    obtain ⟨h1, h2⟩ := Lane.takeOutcome_lives (l := l) hw hopen hq hone stopped o
    have hset := (Lane.Settles.takeOutcome l L tx stopped o).trans (.settleSync _)
    have hMc : M.closed = false := by rw [hM]; exact (L.frameEnd_closed l tx stopped o).trans hopen
    rw [Lane.frameEnd_open hopen hq] at hM
    obtain ⟨hsync1, hsync2⟩ := LaneOut.settleSync_lives (L.takeOutcome l tx stopped o)
    obtain ⟨hb, hp, -⟩ := hset
    rw [← hM] at hsync1 hsync2 hb hp
    refine ⟨⟨(Lane.shaped_iff M).2 ⟨.of_closed hMc, fun _ => hb ▸ hbind hatt, hp hpurp⟩, hsync1.2 h1⟩, hsync2.2 h2,
      .inr ⟨hb, ((Lane.closed_eq_false_iff M).1 hMc).1⟩⟩

/-! ### Grants (R75, R79) -/

/-- A due retry is the first choice of a lane that has one. -/
theorem Lane.choice_retry {L : Lane} {tx : Tx} (hr : L.retryDue = some tx) {c : Choice} (hc : L.choice = some c) :
    c = .retry tx := by
  unfold Lane.choice at hc
  have hretry : L.retryChoice = some (.retry tx) := by simp [Lane.retryChoice, hr]
  cases hs : L.state <;> simp [hs, hretry] at hc <;> exact hc.symm

/-- A due VERIFY is the first choice of an ACTIVE lane without a due retry. -/
theorem Lane.choice_verify {L : Lane} (hs : L.state = .active) (hr : L.retryDue = none) (hv : L.verifyDue = true)
    {a : Nat} (ha : L.image.pendingAddr = some a) {c : Choice} (hc : L.choice = some c) : c = .verify a := by
  unfold Lane.choice at hc
  have hretry : L.retryChoice = none := by simp [Lane.retryChoice, hr]
  have hverify : L.verifyChoice = some (.verify a) := by simp [Lane.verifyChoice, hv, ha]
  simp [hs, hretry, hverify] at hc
  exact hc.symm

theorem Lane.choice_retry_iff {L : Lane} {tx : Tx} (hc : L.choice = some (.retry tx)) : L.retryDue = some tx := by
  by_contra hr
  have hretry : L.retryChoice ≠ some (.retry tx) := by simpa [Lane.retryChoice] using hr
  have hverify : L.verifyChoice ≠ some (.retry tx) := by unfold Lane.verifyChoice; split_ifs <;> simp
  have hack : L.ackChoice ≠ some (.retry tx) := by unfold Lane.ackChoice; split_ifs <;> simp
  have hcheck : L.checkChoice ≠ some (.retry tx) := by unfold Lane.checkChoice; split_ifs <;> simp
  have hdirect : L.directChoice ≠ some (.retry tx) := by simp [Lane.directChoice]
  have hpoll : L.pollChoice ≠ some (.retry tx) := by simp [Lane.pollChoice]
  have hwb : L.wbChoice ≠ some (.retry tx) := by simp [Lane.wbChoice]
  unfold Lane.choice at hc
  cases hs : L.state <;> simp only [hs, Option.orElse_eq_orElse, Option.orElse_eq_or, Option.or_eq_some_iff,
    reduceCtorEq, hretry, hverify, hack, hcheck, hdirect, hpoll, hwb, and_false, or_false] at hc

theorem Image.pendingAddr_of_only {im : Image} {a : Nat} (ha : (im.get a).state = .pending)
    (h : ∀ b ∈ addresses, (im.get b).state = .pending → b = a) : im.pendingAddr = some a := by
  unfold Image.pendingAddr
  cases hf : addresses.find? fun a => decide ((im.get a).state = .pending) with
  | none =>
    have := List.find?_eq_none.1 hf a (Image.mem_of_pending ha)
    simp [ha] at this
  | some b =>
    have hb := List.find?_some hf
    rw [h b (List.mem_of_find?_eq_some hf) (by simpa using hb)]

/-- With a write in progress and no frame in flight the lane's choice is a retry or VERIFY of it (R28, R75). -/
theorem Lane.choice_of_pending {L : Lane} (hone : L.OnePending) (hw : L.WriteLives none) {a : Nat}
    (ha : (L.image.get a).state = .pending) {c : Choice} (hc : L.choice = some c) :
    c.tx.writes a ∧ ∀ b v, c ≠ .wb b v := by
  have hmem := Image.mem_of_pending ha
  obtain ⟨tx, hn, -⟩ | ⟨-, hs, hdue⟩ := hw.2 a hmem ha
  · cases hn
  obtain ⟨tx, hr, hwr⟩ | ⟨hr, hv⟩ := hdue
  · rw [Lane.choice_retry hr hc]
    exact ⟨hwr, by simp⟩
  · rw [Lane.choice_verify hs hr hv (Image.pendingAddr_of_only ha (hone a hmem ha).2) hc]
    exact ⟨rfl, by simp⟩

theorem Lane.granted_image (L : Lane) (c : Choice) (h : ∀ b v, c ≠ .wb b v) : (L.granted c).image = L.image := by
  cases c with
  | wb b v => exact absurd rfl (h b v)
  | _ => rfl

theorem Lane.granted_retryDue (L : Lane) {c : Choice} (h : ∀ tx, c ≠ .retry tx) :
    (L.granted c).retryDue = L.retryDue := by
  cases c with
  | retry tx => exact absurd rfl (h tx)
  | wb a v => simp only [Lane.granted]
  | _ => rfl

/-- After a grant no retry is due (R75, R76). -/
theorem Lane.retryDue_of_granted {L : Lane} {c : Choice} (hc : L.choice = some c) {K : Lane}
    (hK : K.retryDue = L.retryDue) : (K.granted c).retryDue = none := by
  by_cases h : ∃ tx, c = .retry tx
  · obtain ⟨tx, rfl⟩ := h
    rfl
  · rw [Lane.granted_retryDue _ fun tx he => h ⟨tx, he⟩, hK]
    cases hr : L.retryDue with
    | none => rfl
    | some tx => exact absurd ⟨tx, Lane.choice_retry hr hc⟩ h

theorem Lane.granted_fields (L : Lane) (c : Choice) :
    (L.granted c).binding = L.binding ∧ (L.granted c).purpose = L.purpose ∧ (L.granted c).round = L.round := by
  cases c <;> simp only [Lane.granted, and_self]

theorem Lane.settleRound_image (L : Lane) (o : Option Tx) : (L.settleRound o).image = L.image := by
  obtain ⟨hstay, hover⟩ := L.settleRound_spec o
  by_cases h : L.RoundGoesOn o
  · rw [hstay h]
  · rw [hover h]

/-- A grant leaves the lane as the invariant has it, with the granted frame in flight (R27, R79). -/
theorem Lane.granted_link {L : Lane} {c : Choice} (hshape : L.Shaped) (hone : L.OnePending) (hw : L.WriteLives none)
    (hc : L.choice = some c) {M : Lane} (hM : M = (L.settleRound none).granted c) :
    (M.Shaped ∧ M.OnePending) ∧ M.WriteLives (some c.tx) ∧ M.binding = L.binding ∧ M.state = L.state := by
  obtain ⟨-, hbind, hpurp⟩ := (Lane.shaped_iff L).1 hshape
  obtain ⟨hb, hp, -⟩ := Lane.Settles.settleRound L none
  obtain ⟨hgb, hgp, hgr⟩ := (L.settleRound none).granted_fields c
  have hMs : M.state = L.state := by rw [hM]; simp
  have hMb : M.binding = L.binding := by rw [hM, hgb, hb]
  have hne := Lane.not_detached_of_choice hc
  have hshaped : M.Shaped := by
    refine (Lane.shaped_iff M).2 ⟨.of_ne (hMs ▸ hne), fun _ => hMb ▸ hbind hne, ?_⟩
    have := hp hpurp
    unfold Lane.Purposed at this ⊢
    rw [hMs]
    rw [Lane.settleRound_state] at this
    rw [hM, hgp, hgr]
    exact this
  have hretry : M.retryDue = none := hM ▸ Lane.retryDue_of_granted hc (L.settleRound_due none).1
  by_cases hwb : ∃ a v, c = .wb a v
  · obtain ⟨a, v, rfl⟩ := hwb
    have hact := (Lane.choice_wb hc).1
    have hnone : ∀ b, (L.image.get b).state ≠ .pending := fun b hp =>
      (Lane.choice_of_pending hone hw hp hc).2 a v rfl
    have honly : ∀ b, (M.image.get b).state = .pending → b = a := by
      intro b hp
      by_contra hba
      rw [hM] at hp
      simp only [Lane.granted] at hp
      rw [Image.get_modify_ne _ _ hba, Lane.settleRound_image] at hp
      exact hnone b hp
    refine ⟨⟨hshaped, fun b _ hp => ⟨.inl (hMs.trans hact), fun d _ hd => ?_⟩⟩, ⟨fun _ => hretry, fun b _ hp => ?_⟩, hMb, hMs⟩
    · rw [honly b hp, honly d hd]
    · exact .inl ⟨_, rfl, (honly b hp).symm⟩
  · have him : M.image = L.image := by
      rw [hM, Lane.granted_image _ _ fun b v h => hwb ⟨b, v, h⟩, Lane.settleRound_image]
    refine ⟨⟨hshaped, ?_⟩, ⟨fun _ => hretry, fun b _ hp => .inl ⟨_, rfl, ?_⟩⟩, hMb, hMs⟩
    · unfold Lane.OnePending
      rw [him, hMs]
      exact hone
    · rw [him] at hp
      exact (Lane.choice_of_pending hone hw hp hc).1

/-! ### The part -/

/-- The link invariant without the loads. -/
def State.Linked (s : State) : Prop :=
  (∀ l : Fin 16, s.lanes[l].Shaped ∧ s.lanes[l].OnePending) ∧ s.BindingsDistinct ∧
    (s.device ≠ .resetting → s.PortsServe ∧ ∀ l : Fin 16, s.lanes[l].WriteLives (s.inFlight l)) ∧
    (s.device = .resetting → ∀ p : Fin 4, s.ports[p].frame = none → s.ports[p].enabled = false)

theorem linkInv_iff (s : State) : LinkInv s ↔ s.LoadsOpen ∧ s.Linked := by
  unfold LinkInv State.Linked
  tauto

theorem State.inFlight_of_binding {s : State} {l : Fin 16} {b : Binding} (hb : s.lanes[l].binding = some b) :
    s.inFlight l = s.ports[b.port].frame.bind fun f => if f.lane = l then some f.tx else none := by
  unfold State.inFlight
  rw [hb]
  simp only
  cases s.ports[b.port].frame <;> rfl

theorem State.inFlight_of_unbound {s : State} {l : Fin 16} (hb : s.lanes[l].binding = none) :
    s.inFlight l = none := by
  unfold State.inFlight
  rw [hb]

/-- The frame in flight of a lane is read from its binding and the frames of the ports. -/
theorem inFlight_of_frames {s t : State} {l : Fin 16} (hb : t.lanes[l].binding = s.lanes[l].binding)
    (hf : ∀ p : Fin 4, s.lanes[l].binding.map (·.port) = some p →
      (t.ports[p].frame.bind fun f => if f.lane = l then some f.tx else none) =
        s.ports[p].frame.bind fun f => if f.lane = l then some f.tx else none) :
    t.inFlight l = s.inFlight l := by
  cases hs : s.lanes[l].binding with
  | none => rw [State.inFlight_of_unbound hs, State.inFlight_of_unbound (hb.trans hs)]
  | some b =>
    rw [State.inFlight_of_binding hs, State.inFlight_of_binding (hb.trans hs)]
    exact hf b.port (by rw [hs]; rfl)

theorem State.laneAt_some {s : State} {b : Binding} {l : Fin 16} (h : s.laneAt b = some l) :
    s.lanes[l].attached = true ∧ s.lanes[l].binding = some b := by
  have := List.find?_some h
  simpa using this

theorem mem_laneIndices (l : Fin 16) : l ∈ laneIndices := by
  revert l; decide

theorem State.laneAt_none {s : State} {b : Binding} (h : s.laneAt b = none) {l : Fin 16}
    (ha : s.lanes[l].attached = true) : s.lanes[l].binding ≠ some b := by
  intro hb
  have := List.find?_eq_none.1 h l (mem_laneIndices l)
  rw [ha, hb] at this
  simp at this

/-- Changes at the lanes that leave every frame in flight. -/
theorem State.Linked.of_keeps {s t : State} (h : s.Linked) (hp : t.ports = s.ports)
    (hd : t.device = .resetting ↔ s.device = .resetting)
    (hk : ∀ m : Fin 16, s.lanes[m].KeepsLink (s.inFlight m) t.lanes[m]) : t.Linked := by
  obtain ⟨hlanes, hdistinct, hserve, hoff⟩ := h
  have hb (m : Fin 16) : t.lanes[m].binding = s.lanes[m].binding := (hk m).1
  have ha (m : Fin 16) : t.lanes[m].attached = s.lanes[m].attached := (hk m).2.1
  have hfl (m : Fin 16) : t.inFlight m = s.inFlight m :=
    inFlight_of_frames (hb m) fun p _ => by rw [hp]
  refine ⟨fun m => (hk m).2.2.1 (hlanes m), fun l m => ?_, fun hn => ?_, fun hr => ?_⟩
  · rw [ha, ha, hb, hb]
    exact hdistinct l m
  · obtain ⟨⟨henabled, hframes⟩, hw⟩ := hserve (hd.not.1 hn)
    refine ⟨⟨fun l => ?_, fun p => ?_⟩, fun l => ?_⟩
    · rw [ha, hb, hp]; exact henabled l
    · simp only [hp, ha, hb]; exact hframes p
    · rw [hfl]; exact (hk l).2.2.2 (hlanes l).2 (hw l)
  · rw [hp]; exact hoff (hd.1 hr)

theorem State.Linked.of_same {s t : State} (h : s.Linked) (hl : t.lanes = s.lanes) (hp : t.ports = s.ports)
    (hd : t.device = .resetting ↔ s.device = .resetting) : t.Linked :=
  h.of_keeps hp hd fun m => by rw [hl]; exact .refl _ _

theorem State.Linked.setLane {s : State} (h : s.Linked) {l : Fin 16} {M : Lane}
    (hk : s.lanes[l].KeepsLink (s.inFlight l) M) : (s.setLane l M).Linked := by
  refine h.of_keeps rfl Iff.rfl fun m => ?_
  by_cases hm : m = l
  · subst hm; rw [State.setLane_get_self]; exact hk
  · rw [State.setLane_get_ne _ _ hm]; exact .refl _ _

/-- Outside RESETTING a lane's frame in flight stands at the lane's port. -/
theorem State.inFlight_of_frame {s : State} (hs : s.PortsServe) {p : Fin 4} {f : Frame}
    (hf : s.ports[p].frame = some f) : s.inFlight f.lane = some f.tx := by
  obtain ⟨-, hb⟩ := hs.2 p f hf
  obtain ⟨b, hbind, rfl⟩ := Option.map_eq_some_iff.1 hb
  rw [State.inFlight_of_binding hbind, hf]
  simp

theorem Lane.attached_iff (L : Lane) : L.attached = true ↔ L.state ≠ .detached := by
  simp [Lane.attached]

/-- One lane is cleared that has no frame in flight (R64). -/
theorem State.Linked.clearLane {s : State} (h : s.Linked) {l : Fin 16}
    (hn : s.device ≠ .resetting → s.inFlight l = none) : (s.setLane l Lane.reset).Linked := by
  obtain ⟨hlanes, hdistinct, hserve, hoff⟩ := h
  have hself : (s.setLane l Lane.reset).lanes[l] = Lane.reset := State.setLane_get_self _ _ _
  have hne (m : Fin 16) (hm : m ≠ l) : (s.setLane l Lane.reset).lanes[m] = s.lanes[m] :=
    State.setLane_get_ne _ _ hm
  have hatt (m : Fin 16) (ha : (s.setLane l Lane.reset).lanes[m].attached = true) : m ≠ l := by
    rintro rfl
    rw [hself] at ha
    simp [Lane.attached, Lane.reset] at ha
  refine ⟨fun m => ?_, fun m k hm hk => ?_, fun hd => ?_, hoff⟩
  · by_cases hm : m = l
    · rw [hm, hself]; exact ⟨Lane.shaped_reset, Lane.noPending_reset.onePending⟩
    · rw [hne m hm]; exact hlanes m
  · have h1 := hatt m hm
    have h2 := hatt k hk
    rw [hne m h1, hne k h2] at *
    exact hdistinct m k hm hk
  · obtain ⟨hports, hw⟩ := hserve hd
    refine ⟨⟨fun m hm => ?_, fun p f hf => ?_⟩, fun m => ?_⟩
    · have h1 := hatt m hm
      rw [hne m h1] at hm ⊢
      exact hports.1 m hm
    · have hfl : f.lane ≠ l := by
        rintro rfl
        have := State.inFlight_of_frame hports hf
        rw [hn hd] at this
        cases this
      rw [hne _ hfl]
      exact hports.2 p f hf
    · by_cases hm : m = l
      · subst hm
        have hunbound : (s.setLane m Lane.reset).lanes[m].binding = none := by rw [hself]; rfl
        rw [State.inFlight_of_unbound hunbound, hself]
        exact Lane.noPending_reset.writeLives
      · have hsame : (s.setLane l Lane.reset).inFlight m = s.inFlight m :=
          inFlight_of_frames (by rw [hne m hm]) fun _ _ => rfl
        rw [hsame, hne m hm]
        exact hw m

theorem Lane.KeepsLink.detach {L : Lane} (hopen : L.closed = false) (id : CmdId) (tx : Tx) :
    L.KeepsLink (some tx) (L.detach id (some tx)) := by
  have hd := ((Lane.closed_eq_false_iff L).1 hopen).1
  refine ⟨rfl, ?_, fun ⟨hshape, hone⟩ => ⟨?_, fun a ha hp => ⟨.inr (.inr rfl), (hone a ha hp).2⟩⟩,
    fun _ hw => ⟨fun _ => rfl, fun a ha hp => ?_⟩⟩
  · simp [Lane.attached, Lane.detach, hd]
  · exact (Lane.shaped_iff _).2 ⟨.of_ne (by simp [Lane.detach]), fun _ => ((Lane.shaped_iff L).1 hshape).2.1 hd,
      by simp [Lane.Purposed, Lane.detach, Lane.dropAutomatic]⟩
  · obtain h | ⟨hn, -⟩ := hw.2 a ha hp
    · exact .inl h
    · cases hn

theorem State.Linked.detach {s : State} (h : s.Linked) {l : Fin 16} (hs : s.lanes[l].closed = false) (id : CmdId) :
    (s.setLane l (s.lanes[l].detach id (s.inFlight l))).Linked := by
  cases hi : s.inFlight l with
  | none => exact h.clearLane fun _ => hi
  | some tx => exact h.setLane (by rw [hi]; exact .detach hs id tx)

theorem State.Linked.attach {s : State} (h : s.Linked) {l : Fin 16} {id : CmdId} {b : Binding} {x : Options}
    (hs : s.lanes[l].state = .detached) (hp : s.ports[b.port].enabled = true) (hb : s.laneAt b = none) :
    (s.setLane l (s.lanes[l].attach id b x)).Linked := by
  obtain ⟨hlanes, hdistinct, hserve, hoff⟩ := h
  have hreset : s.lanes[l] = Lane.reset := (hlanes l).1.1 hs
  obtain ⟨M, hM⟩ : ∃ M, M = s.lanes[l].attach id b x := ⟨_, rfl⟩
  rw [← hM]
  rw [hreset] at hM
  have hbind : M.binding = some b := by rw [hM]; rfl
  have hno : M.NoPending := by rw [hM]; exact Lane.noPending_reset
  have hself : (s.setLane l M).lanes[l] = M := State.setLane_get_self _ _ _
  have hne (m : Fin 16) (hm : m ≠ l) : (s.setLane l M).lanes[m] = s.lanes[m] := State.setLane_get_ne _ _ hm
  have hfree (m : Fin 16) (ha : s.lanes[m].attached = true) : s.lanes[m].binding ≠ some b :=
    State.laneAt_none hb ha
  refine ⟨fun m => ?_, fun m k hm hk he => ?_, fun hd => ?_, hoff⟩
  · by_cases hm : m = l
    · rw [hm, hself]
      refine ⟨(Lane.shaped_iff M).2 ⟨.of_ne (by simp [hM, Lane.attach]), fun _ => by rw [hbind]; rfl, ?_⟩, hno.onePending⟩
      simp [Lane.Purposed, hM, Lane.attach, Lane.reset]
    · rw [hne m hm]; exact hlanes m
  · by_cases hml : m = l <;> by_cases hkl : k = l
    · rw [hml, hkl]
    · subst hml
      rw [hself, hbind] at he
      rw [hne k hkl] at he hk
      exact absurd he.symm (hfree k hk)
    · subst hkl
      rw [hself, hbind] at he
      rw [hne m hml] at he hm
      exact absurd he (hfree m hm)
    · rw [hne m hml, hne k hkl] at he
      rw [hne m hml] at hm
      rw [hne k hkl] at hk
      exact hdistinct m k hm hk he
  · obtain ⟨hports, hw⟩ := hserve hd
    refine ⟨⟨fun m hm c hc => ?_, fun p f hf => ?_⟩, fun m => ?_⟩
    · by_cases hml : m = l
      · subst hml
        rw [hself, hbind] at hc
        obtain rfl := Option.some.inj hc
        exact hp
      · rw [hne m hml] at hm hc
        exact hports.1 m hm c hc
    · have hfl : f.lane ≠ l := by
        rintro rfl
        exact (Lane.attached_iff _).1 (hports.2 p f hf).1 hs
      rw [hne _ hfl]
      exact hports.2 p f hf
    · by_cases hml : m = l
      · rw [hml, hself]
        exact ⟨fun _ => by rw [hM]; rfl, fun a _ hpend => absurd hpend (hno a)⟩
      · have hsame : (s.setLane l M).inFlight m = s.inFlight m :=
          inFlight_of_frames (by rw [hne m hml]) fun _ _ => rfl
        rw [hsame, hne m hml]
        exact hw m

/-- A port and a lane of it change together: the grant or the end of the lane's frame. -/
theorem State.Linked.setFrame {s : State} (h : s.Linked) (hd : s.device ≠ .resetting) {p : Fin 4} {P : Port}
    {l : Fin 16} {M : Lane} (hen : P.enabled = s.ports[p].enabled)
    (hlp : s.lanes[l].attached = true ∧ s.lanes[l].binding.map (·.port) = some p)
    (hold : ∀ f ∈ s.ports[p].frame, f.lane = l) (hnew : ∀ f ∈ P.frame, f.lane = l ∧ M.attached = true)
    (hb : M = Lane.reset ∨ M.binding = s.lanes[l].binding ∧ M.state ≠ .detached)
    (hM : M.Shaped ∧ M.OnePending) (hw : M.WriteLives (P.frame.map (·.tx))) :
    ((s.setPort p P).setLane l M).Linked := by
  obtain ⟨hlanes, hdistinct, hserve, -⟩ := h
  obtain ⟨hports, hwrites⟩ := hserve hd
  obtain ⟨t, ht⟩ : ∃ t, t = (s.setPort p P).setLane l M := ⟨_, rfl⟩
  rw [← ht]
  have hself : t.lanes[l] = M := by rw [ht]; exact State.setLane_get_self _ _ _
  have hne (m : Fin 16) (hm : m ≠ l) : t.lanes[m] = s.lanes[m] := by rw [ht]; exact State.setLane_get_ne _ _ hm
  have hport : t.ports[p] = P := by rw [ht, State.setLane_ports]; exact State.setPort_get_self _ _ _
  have hother (q : Fin 4) (hq : q ≠ p) : t.ports[q] = s.ports[q] := by
    rw [ht, State.setLane_ports]; exact State.setPort_get_ne _ _ hq
  have hbind (ha : M.attached = true) : M.binding = s.lanes[l].binding := by
    obtain rfl | ⟨he, -⟩ := hb
    · simp [Lane.attached, Lane.reset] at ha
    · exact he
  have henabled (q : Fin 4) : t.ports[q].enabled = s.ports[q].enabled := by
    by_cases hq : q = p
    · rw [hq, hport, hen]
    · rw [hother q hq]
  have hattach (m : Fin 16) (ha : t.lanes[m].attached = true) :
      s.lanes[m].attached = true ∧ t.lanes[m].binding = s.lanes[m].binding := by
    by_cases hm : m = l
    · subst hm
      rw [hself] at ha ⊢
      exact ⟨hlp.1, hbind ha⟩
    · rw [hne m hm] at ha ⊢
      exact ⟨ha, rfl⟩
  have hdev : t.device ≠ .resetting := by rw [ht]; simpa using hd
  refine ⟨fun m => ?_, fun m k hm hk he => ?_, fun _ => ⟨⟨fun m hm b hmb => ?_, fun q f hf => ?_⟩, fun m => ?_⟩,
    fun hr => absurd hr hdev⟩
  · by_cases hm : m = l
    · rw [hm, hself]; exact hM
    · rw [hne m hm]; exact hlanes m
  · obtain ⟨h1, h2⟩ := hattach m hm
    obtain ⟨h3, h4⟩ := hattach k hk
    exact hdistinct m k h1 h3 (by rw [← h2, ← h4, he])
  · obtain ⟨h1, h2⟩ := hattach m hm
    rw [henabled]
    exact hports.1 m h1 b (h2 ▸ hmb)
  · by_cases hq : q = p
    · subst hq
      rw [hport] at hf
      obtain ⟨rfl, ha⟩ := hnew f hf
      rw [hself, hbind ha]
      exact ⟨ha, hlp.2⟩
    · rw [hother q hq] at hf
      have hserves := hports.2 q f hf
      have hbound : ∀ m, s.lanes[m].binding.map (·.port) = some q → m ≠ l := by
        rintro m hm rfl
        exact hq (Option.some.inj (hm.symm.trans hlp.2))
      have hfl := hbound f.lane hserves.2
      rw [hne _ hfl]
      exact hserves
  · by_cases hm : m = l
    · subst hm
      rw [hself]
      obtain rfl | ⟨he, hst⟩ := hb
      · have hunbound : t.lanes[m].binding = none := by rw [hself]; rfl
        rw [State.inFlight_of_unbound hunbound]
        exact Lane.noPending_reset.writeLives
      · obtain ⟨b, hsb, rfl⟩ := Option.map_eq_some_iff.1 hlp.2
        have htb : t.lanes[m].binding = some b := by rw [hself, he, hsb]
        have hfl : t.inFlight m = P.frame.map (·.tx) := by
          rw [State.inFlight_of_binding htb, hport]
          cases hf : P.frame with
          | none => rfl
          | some f => simp [(hnew f hf).1]
        rw [hfl]
        exact hw
    · have hsame : t.inFlight m = s.inFlight m := by
        refine inFlight_of_frames (by rw [hne m hm]) fun q _ => ?_
        by_cases hq : q = p
        · subst hq
          have hlane (F : Option Frame) (hF : ∀ f ∈ F, f.lane = l) :
              (F.bind fun f => if f.lane = m then some f.tx else none) = none := by
            cases F with
            | none => rfl
            | some f =>
              have hlm : l ≠ m := fun he => hm he.symm
              simp [hF f rfl, hlm]
          rw [hport, hlane _ fun f hf => (hnew f hf).1, hlane _ hold]
        · rw [hother q hq]
      rw [hsame, hne m hm]
      exact hwrites m

theorem State.Linked.grant {s : State} (h : s.Linked) {p sel : Fin 4} {l : Fin 16} {c : Choice}
    (he : s.ports[p].enabled = true) (hf : s.ports[p].frame = none)
    (hl : s.laneAt { port := p, select := sel } = some l) (hc : s.lanes[l].choice = some c) :
    (s.grant p sel l c).Linked := by
  have hd : s.device ≠ .resetting := fun hr => by
    have := h.2.2.2 hr p hf
    rw [he] at this
    cases this
  obtain ⟨hatt, hbind⟩ := State.laneAt_some hl
  obtain ⟨hlanes, -, hserve, -⟩ := id h
  obtain ⟨-, hw⟩ := hserve hd
  have hnone : s.inFlight l = none := by rw [State.inFlight_of_binding hbind, hf]; rfl
  have hwl := hw l
  rw [hnone] at hwl
  obtain ⟨hM, hwM, hMb, hMs⟩ := Lane.granted_link (hlanes l).1 (hlanes l).2 hwl hc rfl
  have hMd := (Lane.attached_iff _).1 ((Lane.attached_of_state_eq hMs).trans hatt)
  exact h.setFrame hd rfl ⟨hatt, by rw [hbind]; rfl⟩ (fun f hmem => by rw [hf] at hmem; cases hmem)
    (fun f hmem => by obtain rfl := Option.some.inj hmem; exact ⟨rfl, (Lane.attached_iff _).2 hMd⟩)
    (.inr ⟨hMb, hMd⟩) hM hwM

theorem State.Linked.frameEnd {s : State} (h : s.Linked) {p : Fin 4} {f : Frame} (hf : s.ports[p].frame = some f)
    (hd : s.device ≠ .resetting) (stopped : Bool) (out : FrameOutcome) :
    ((s.setPort p { s.ports[p] with frame := none }).setLane f.lane
      (s.lanes[f.lane].frameEnd f.lane f.tx stopped out).lane).Linked := by
  obtain ⟨hlanes, -, hserve, -⟩ := id h
  obtain ⟨hports, hw⟩ := hserve hd
  obtain ⟨hatt, hbind⟩ := hports.2 p f hf
  have hwl := hw f.lane
  rw [State.inFlight_of_frame hports hf] at hwl
  obtain ⟨hM, hwM, hMb⟩ := Lane.frameEnd_link (hlanes f.lane).1 (hlanes f.lane).2 hwl
    ((Lane.attached_iff _).1 hatt) f.lane stopped out rfl
  exact h.setFrame hd rfl ⟨hatt, hbind⟩
    (fun g hg => by rw [hf] at hg; obtain rfl := Option.some.inj hg; rfl) (by simp) hMb hM hwM

theorem State.Linked.clear (s : State) : s.cleared.Linked := by
  have hlane (l : Fin 16) : s.cleared.lanes[l] = Lane.reset := reset_lane l
  have hport (p : Fin 4) : s.cleared.ports[p] = Port.reset := by simp [State.cleared, State.reset]
  have hunbound (l : Fin 16) : s.cleared.lanes[l].binding = none := by rw [hlane]; rfl
  have hatt (l : Fin 16) : s.cleared.lanes[l].attached = false := by rw [hlane]; rfl
  refine ⟨fun l => ?_, fun l m hl => ?_, fun _ => ⟨⟨fun l hl => ?_, fun p f hf => ?_⟩, fun l => ?_⟩, fun hr => ?_⟩
  · rw [hlane]; exact ⟨Lane.shaped_reset, Lane.noPending_reset.onePending⟩
  · rw [hatt] at hl; cases hl
  · rw [hatt] at hl; cases hl
  · rw [hport] at hf; cases hf
  · rw [State.inFlight_of_unbound (hunbound l), hlane]
    exact Lane.noPending_reset.writeLives
  · cases hr

theorem State.Linked.reset {s : State} (h : s.Linked) : s.controlReset.Linked := by
  unfold State.controlReset
  split_ifs with hd
  · exact h
  · refine ⟨h.1, h.2.1, fun hn => absurd rfl hn, fun _ p hf => ?_⟩
    simp only [Vector.getElem_ofFn, Fin.getElem_fin] at hf ⊢
    split_ifs at hf ⊢ with hnone
    · rfl
    · exact absurd (by rw [hf]; rfl) hnone

theorem State.Linked.frameDropped {s : State} (h : s.Linked) (hd : s.device = .resetting) (p : Fin 4) :
    (s.setPort p Port.reset).Linked := by
  refine ⟨h.1, h.2.1, fun hn => absurd hd hn, fun _ q hf => ?_⟩
  by_cases hq : q = p
  · rw [hq, State.setPort_get_self]; rfl
  · rw [State.setPort_get_ne _ _ hq] at hf ⊢
    exact h.2.2.2 hd q hf

theorem State.portBound_of {s : State} {l : Fin 16} {b : Binding} (ha : s.lanes[l].attached = true)
    (hb : s.lanes[l].binding = some b) : s.portBound b.port = true := by
  refine List.any_eq_true.2 ⟨l, mem_laneIndices l, ?_⟩
  rw [ha, hb]
  simp

/-- The setup block leaves the ports of attached lanes and every frame in flight (R81, R169). -/
theorem State.Linked.setup {s t : State} (h : s.Linked) (hs : s.device ≠ .resetting) (ht : t.device ≠ .resetting)
    (hl : t.lanes = s.lanes)
    (hp : ∀ p : Fin 4, t.ports[p].frame = s.ports[p].frame ∧
      (s.portBound p = true → t.ports[p].enabled = s.ports[p].enabled)) : t.Linked := by
  obtain ⟨hlanes, hdistinct, hserve, -⟩ := h
  obtain ⟨hports, hw⟩ := hserve hs
  refine ⟨by rw [hl]; exact hlanes, ?_, fun _ => ⟨⟨fun l ha b hb => ?_, fun p f hf => ?_⟩, fun l => ?_⟩,
    fun hr => absurd hr ht⟩
  · unfold State.BindingsDistinct; rw [hl]; exact hdistinct
  · rw [hl] at ha hb
    rw [(hp b.port).2 (State.portBound_of ha hb)]
    exact hports.1 l ha b hb
  · rw [(hp p).1] at hf
    rw [hl]
    exact hports.2 p f hf
  · have hsame : t.inFlight l = s.inFlight l := inFlight_of_frames (by rw [hl]) fun q _ => by rw [(hp q).1]
    rw [hsame, hl]
    exact hw l

theorem Change.keeps_linked {s t : State} (hc : Change s t) (hloads : s.LoadsOpen) (h : s.Linked) : t.Linked := by
  cases hc with
  | registers t ht => rw [ht]; exact h
  | message b => exact h.of_same (by simp) (by simp) (by simp)
  | event e => exact h.of_same (by simp) (by simp) (by simp)
  | finish c => exact h.of_same (by simp) (by simp) (by simp)
  | enter u e hu => cases hu <;> exact h
  | enterFinished u e hu => cases hu <;> exact h
  | refuseRecord u hu => cases hu <;> exact h
  | popFinished => unfold State.popFinished; split <;> exact h
  | startHead p => obtain hs | ⟨x, xs, -, -, -, hs⟩ := startHead_cases s p <;> rw [hs] <;> exact h
  | start a hd => exact h.of_same rfl rfl (by simp [hd, State.ask])
  | startFailed hd => exact h.of_same rfl rfl (by simp [hd])
  | setupTaken bs hd hp =>
    refine h.setup (by simp [hd]) (by simp) rfl fun p => ?_
    simp only [Vector.getElem_ofFn, Fin.getElem_fin]
    split_ifs with hb
    · exact ⟨rfl, fun _ => rfl⟩
    · exact ⟨rfl, fun hb' => absurd hb' hb⟩
  | stopping hd => exact h.of_same rfl rfl (by simp [hd])
  | halt hd =>
    have hn : s.device ≠ .resetting := fun hh => by rw [hh] at hd; cases hd
    exact h.of_same rfl rfl ⟨(by intro hh; cases hh), fun hh => absurd hh hn⟩
  | reset => exact h.reset
  | clear => exact .clear s
  | lane l M hM => exact h.setLane hM.keepsLink
  | attach l id b block x hs hp hb hx => exact h.attach hs hp hb
  | detach l id hs hq ha => exact h.detach hs id
  | stopLanes =>
    refine h.of_keeps rfl Iff.rfl fun m => ?_
    rw [show s.stopLanes.lanes[m] = s.lanes[m].stop (s.inFlight m) by simp [State.stopLanes]]
    exact .stop _ _
  | grant p sel l c he hf hl hc => exact h.grant he hf hl hc
  | frameEnd p f stopped out hf hd => exact h.frameEnd hf hd stopped out
  | frameDropped p hd => exact h.frameDropped hd p
  | commit load hx hst => exact h.setLane (.commit _ _ (hloads.2 load hx) _ _)
  | detachLoads l =>
    refine h.of_same (by simp) (by simp) ?_
    obtain ⟨d, hd⟩ | ⟨d, hd⟩ := detachLoads_cases s l <;> simp [hd, State.endLoad]
  | stopLoads =>
    obtain hd | hd := stopLoads_cases s <;> rw [hd]
    · exact h
    · exact h.of_same (by simp [State.endLoad]) (by simp [State.endLoad]) (by simp [State.endLoad])
  | startLoad q => exact h.of_same (by simp) (by simp) (by simp)
  | blockDropped a ts => exact h.of_same (by simp) (by simp) (by simp)
  | loadEnded a ts => exact h.of_same (by simp) (by simp) (by simp)
  | commitEnded load => exact h.of_same (by simp) (by simp) (by simp)
  | _ => exact h

theorem Change.keeps_links {s t : State} (hc : Change s t) (h : LinkInv s) : LinkInv t := by
  rw [linkInv_iff] at h ⊢
  exact ⟨hc.keeps_loadsOpen h.1, hc.keeps_linked h.1 h.2⟩

/-- Settles O8: each elementary change of a step keeps the link invariant. -/
theorem stepKeepsLinks : Obligations.StepKeepsLinks := by
  unfold Obligations.StepKeepsLinks
  intro s t hs ht
  exact (step_changes ht).keep (P := LinkInv) Change.keeps_links hs

end Sys2Proof.Machine
end

section
/-! The part after reset, and the statements about images, watches, causes and link frames. -/

namespace Sys2Proof.Machine

/-! ### Step and reset -/

/-- Settles O1: with a command at the front of the queue `step` is by definition its `exec`. -/
theorem stepRunsFrontCommand : Obligations.StepRunsFrontCommand := by
  unfold Obligations.StepRunsFrontCommand
  intro c rest s
  rfl

/-- Settles O4: each item of the reset state is the one its chapter gives. -/
theorem resetLeaves : Obligations.ResetLeaves := by
  unfold Obligations.ResetLeaves
  have hport (p : Fin 4) : State.reset.ports[p] = Port.reset := by simp [State.reset]
  have hring (q : Fin 4) : State.reset.rings[q] = SubRing.reset := by simp [State.reset]
  have himage (l : Fin 16) (a : Nat) : State.reset.lanes[l].image.get a = Entry.reset := by
    rw [reset_lane]; exact Image.get_reset a
  have hwatch (l : Fin 16) (i : Fin 8) : State.reset.lanes[l].watches[i] = Watch.reset := by
    rw [reset_lane]; simp [Lane.reset]
  refine ⟨rfl, rfl, by decide, rfl, by decide, by decide, rfl, rfl, rfl, hring, rfl, rfl, rfl, rfl, rfl, rfl, rfl, rfl,
    hport, fun l => ?_⟩
  have hlane : State.reset.lanes[l] = Lane.reset := reset_lane l
  have hrest := himage l
  have hwatches := hwatch l
  simp only [hlane] at hrest hwatches ⊢
  exact ⟨rfl, rfl, rfl, rfl, rfl, rfl, rfl, rfl, rfl, rfl, rfl, rfl, rfl, rfl, rfl, rfl, fun a _ => hrest a, hwatches⟩

theorem cleared_reset : State.reset.cleared = State.reset := rfl

/-- Settles O5: clearing the part meets each invariant, and clears the reset state to itself. -/
theorem resetMeetsTheInvariants : Obligations.ResetMeetsTheInvariants := by
  unfold Obligations.ResetMeetsTheInvariants
  have hloads : State.reset.LoadsOpen := by simp [State.LoadsOpen, State.reset, Loader.reset]
  have htable := TableInv.clear State.reset
  have hrings := RingInv.clear State.reset
  have hlinked := State.Linked.clear State.reset
  rw [cleared_reset] at htable hrings hlinked
  refine ⟨⟨fun l => ?_, hloads⟩, ⟨fun l => ?_, Staging.columnsFit_reset⟩, ⟨fun l => ?_, Staging.watchesFit_reset⟩,
    (linkInv_iff _).2 ⟨hloads, hlinked⟩, htable, hrings, ?_, ⟨fun l => ?_, Nat.zero_le _, rfl⟩⟩
  · rw [reset_lane]; exact (Lane.imageOk_iff _).2 ⟨Lane.imageFits_reset, fun _ => rfl⟩
  · rw [reset_lane]; exact Lane.calOk_reset
  · rw [reset_lane]; exact Lane.watchesOk_reset
  · simp [LoaderInv, State.reset, Loader.reset, Loader.reads]
  · rw [reset_lane]; exact Lane.countsFit_reset

/-! ### Images -/

/-- The first present layer, in the words of Table 1-2. -/
theorem layered_eq (o : LayerOrder) (b h c : Option Byte) :
    layered o b h c = match o with
      | .holdFirst => if h.isSome then h else if c.isSome then c else b
      | .calFirst => if c.isSome then c else if h.isSome then h else b := by
  cases o <;> cases h <;> cases c <;> rfl

/-- Settles O12: `setLayers` by whether the intended value stays, and then by the entry's state and the value. -/
theorem layerChangeRederives : Obligations.LayerChangeRederives := by
  unfold Obligations.LayerChangeRederives
  intro old o e b h c v hok hv
  obtain ⟨-, -, hclear, -, -⟩ := hok
  replace hv : v = layered o b h c := hv.trans (layered_eq o b h c).symm
  have hset : e.setLayers o b h c = Entry.reintend v { e with base := b, hold := h, cal := c } := by rw [hv]; rfl
  have hother (hne : v ≠ e.intended) (hs : e.state ≠ .pending) : e.setLayers o b h c =
      Entry.rederive { e with base := b, hold := h, cal := c, intended := v } := by
    rw [hset, Entry.reintend, if_neg (Ne.symm hne), if_neg hs]
  refine ⟨fun he => ?_, fun hne hs => ?_, fun hne hs hn => ?_, fun hne hs hn ha => ?_, fun hne hs hn ha => ?_⟩
  · rw [hset, Entry.reintend, if_pos he.symm]
  · rw [hset, Entry.reintend, if_neg (Ne.symm hne), if_pos hs]
  · obtain ⟨hfl, hatt⟩ := hclear hs
    rw [hother hne hs, Entry.rederive_none hn]
    simp only [hfl, hatt, hn]
    rfl
  · rw [hother hne hs, Entry.rederive_clean hn ha.symm]
  · rw [hother hne hs, Entry.rederive_dirty hn (Ne.symm ha)]

/-- Settles O13: the queue of `place`, with the entries read back by their addresses. -/
theorem queueFollowsTheEntries : Obligations.QueueFollowsTheEntries := by
  unfold Obligations.QueueFollowsTheEntries
  intro im f hq
  have hget : ∀ a ∈ addresses, (im.mapEntries f).get a = f a (im.get a) := fun a => Image.get_mapEntries im f
  have hdirty {a : Nat} (ha : a ∈ addresses) :
      dirtyAt (im.mapEntries f).entries a = decide ((f a (im.get a)).state = .dirty) := by
    rw [dirtyAt_get, hget a ha]
  obtain ⟨-, hmem, hexact⟩ := hq
  refine ⟨hget, addresses.filter fun a => dirtyAt (im.mapEntries f).entries a && !dirtyAt im.entries a, ?_, ?_, fun a => ?_⟩
  · exact congrArg (· ++ _) (List.filter_congr fun a ha => hdirty (hmem a ha))
  · exact List.Pairwise.filter _ (by decide)
  · rw [List.mem_filter]
    refine and_congr_right fun ha => ?_
    rw [hdirty ha, dirtyAt_get, hexact a ha]
    simp

/-- Settles O14: the rebuild entry by entry, where a managed entry is one with an intended value. -/
theorem rebuildReplaysTheImage : Obligations.RebuildReplaysTheImage := by
  unfold Obligations.RebuildReplaysTheImage
  intro im o hok
  have hentry (a : Nat) (ha : a ∈ addresses) : (im.get a).rebuild =
      if (im.get a).intended.isSome then { im.get a with applied := none, state := .dirty, refusal := none }
      else im.get a := by
    obtain ⟨-, hs⟩ := hok a ha
    unfold Entry.rebuild
    cases hi : (im.get a).intended with
    | none => rfl
    | some v =>
      cases hst : (im.get a).state with
      | pending => exact absurd hst hs
      | _ => simp [hi]
  have hget (a : Nat) (ha : a ∈ addresses) := (Image.get_rebuild im ha).trans (hentry a ha)
  refine ⟨?_, hget⟩
  rw [Image.rebuild_queue]
  refine List.filter_congr fun a ha => ?_
  rw [dirtyAt_get, hget a ha]
  obtain ⟨⟨-, hfits, -⟩, -⟩ := hok a ha
  split_ifs with hi
  · simp [hi]
  · have hs : (im.get a).state ≠ .dirty := fun hs => by
      simp only [Entry.Fits, hs] at hfits
      exact hi hfits.1
    simp [hi, hs]

/-! ### Watches (R98, R99) -/

theorem readingOf_eq {num : Byte → Int} {signed : Bool} (hnum : ∀ b, num b = if signed then b.toInt else (b.toNat : Int))
    (b : Byte) : readingOf signed b = num b := by
  rw [hnum]; rfl

theorem belowLimit_iff (signed : Bool) (limit : Option Byte) (v : Byte) :
    belowLimit signed limit v = true ↔ ∃ b, limit = some b ∧ readingOf signed v < readingOf signed b := by
  cases limit <;> simp [belowLimit]

theorem aboveLimit_iff (signed : Bool) (limit : Option Byte) (v : Byte) :
    aboveLimit signed limit v = true ↔ ∃ b, limit = some b ∧ readingOf signed b < readingOf signed v := by
  cases limit <;> simp [aboveLimit]

theorem latchFlag_eq (l : Latch) (old c : Bool) : latchFlag l old c = if l = .live then c else c || old := by
  cases l <;> simp [latchFlag, Bool.or_comm]

/-- Settles O17: the four conditions are the model's, each latched as its pair's option says. -/
theorem comparisonSetsFlags : Obligations.ComparisonSetsFlags := by
  unfold Obligations.ComparisonSetsFlags
  intro o w v x num al ah wl wh hnum hx hal hah hwl hwh
  have hr (b : Byte) : readingOf w.signed b = num b := readingOf_eq hnum b
  have hbelow {f : Bool} {limit : Option Byte} (hf : f = true ↔ ∃ b, limit = some b ∧ x < num b) :
      belowLimit w.signed limit v = f := by
    rw [Bool.eq_iff_iff, belowLimit_iff, hf]
    simp only [hr, hx]
  have habove {f : Bool} {limit : Option Byte} (hf : f = true ↔ ∃ b, limit = some b ∧ num b < x) :
      aboveLimit w.signed limit v = f := by
    rw [Bool.eq_iff_iff, aboveLimit_iff, hf]
    simp only [hr, hx]
  simp only [Watch.compare, Flags.latch, Watch.conditions, hbelow hal, habove hah, hbelow hwl, habove hwh, latchFlag_eq]

/-! ### Events and causes (R158, R162, R163) -/

theorem interruptCondition_iff (x e : Causes) : interruptCondition x e = true ↔
    x.completion = true ∧ e.completion = true ∨ x.event = true ∧ e.event = true ∨ x.error = true ∧ e.error = true ∨
      x.state = true ∧ e.state = true := by
  simp [interruptCondition, Causes.any, Causes.inter, or_assoc]

/-- Settles O18: the branches of `raise`, and `setCauses` by whether the interrupt condition rises. -/
theorem eventsAndCauses : Obligations.EventsAndCauses := by
  unfold Obligations.EventsAndCauses
  intro s
  refine ⟨fun e => ⟨fun hm => ?_, fun hm hd => ?_, fun hm hd hfull => ?_, fun hm hd hroom => ?_⟩,
    fun c u holds hu hholds => ?_⟩
  · simp [State.raise, hm]
  · simp [State.raise, hm, hd, State.addLost, Config.countMax]
  · have hroom : s.eq.room = false := by simpa [EventRing.room] using hfull
    simp [State.raise, hm, hroom, State.addLost, Config.countMax]
  · have hroom : s.eq.room = true := by simpa [EventRing.room] using hroom
    simp [State.raise, hm, hd, hroom]
  · replace hu : u = { s with intState := s.intState.union c } := hu
    have hiff (x : Causes) : holds x ↔ interruptCondition x s.intEnable = true :=
      (hholds x).trans (interruptCondition_iff x s.intEnable).symm
    obtain ⟨hsame, hrise⟩ := s.setCauses_spec c
    subst hu
    rw [hiff, hiff]
    simp only [Bool.not_eq_true]
    refine ⟨hsame, fun hb ha => ?_⟩
    obtain ⟨hempty, hcons⟩ := hrise hb ha
    refine ⟨hempty, fun x xs ht hx => hcons x xs ht ?_⟩
    cases x with
    | message => exact absurd rfl hx
    | _ => rfl

/-! ### Link frames (R69 to R71) -/

theorem length_msbFirst (n v : Nat) : (msbFirst n v).length = n := by simp [msbFirst]

theorem getElem?_msbFirst {n v i : Nat} (h : i < n) : (msbFirst n v)[i]? = some (v.testBit (n - 1 - i)) := by
  simp [msbFirst, h]

/-- The operation, the address and for a write the data, in the order they pass. -/
theorem Tx.coveredBits_eq (tx : Tx) : tx.coveredBits =
    tx.written.isNone :: (msbFirst 6 tx.addr ++ (tx.written.map fun v => msbFirst 8 v.toNat).getD []) := by
  unfold Tx.coveredBits
  cases tx.written <;> simp

/-- A number of ones is odd exactly when their sum without carries is 1. -/
theorem oddOnes_eq (bs : List Bool) : oddOnes bs = decide (bs.count true % 2 = 1) := by
  induction bs with
  | nil => rfl
  | cons b bs ih =>
    rw [show oddOnes (b :: bs) = (b ^^ oddOnes bs) from rfl, ih]
    rcases Nat.mod_two_eq_zero_or_one (bs.count true) with h | h <;> cases b <;>
      simp [Nat.add_mod, h]

/-- The parity bit makes the number of ones even. -/
theorem count_with_parity (bs : List Bool) : (bs ++ [oddOnes bs]).count true % 2 = 0 := by
  rw [List.count_append, oddOnes_eq]
  rcases Nat.mod_two_eq_zero_or_one (bs.count true) with h | h <;> simp [Nat.add_mod, h]

theorem count_msbFirst_eight (b : Byte) :
    (msbFirst 8 b.toNat).count true = (List.range 8).countP fun i => b.getLsbD i := by
  have h (i : Nat) : b.getLsbD i = b.toNat.testBit i := rfl
  simp only [msbFirst, List.count, List.countP_map, h]
  simp only [List.range_succ, List.range_zero, List.nil_append, List.cons_append, List.countP_cons, List.countP_nil,
    Function.comp_apply]
  simp
  omega

/-- The read parity holds exactly when data bits and parity bit have an even number of ones (R70). -/
theorem readParityEven_eq (a : FrameAnswer) : readParityEven a =
    decide (((List.range 8).countP (fun i => a.data.getLsbD i) + a.parity.toNat) % 2 = 0) := by
  unfold readParityEven
  rw [oddOnes_eq, count_msbFirst_eight]
  rcases Nat.mod_two_eq_zero_or_one ((List.range 8).countP fun i => a.data.getLsbD i) with h | h <;>
    cases a.parity <;> simp [Nat.add_mod, h]

/-! The outcome of a frame by its answer bits (R71). -/

theorem settle_unseen {window : Nat} {a : FrameAnswer} (h : answerSeen window a = false) (tx : Tx) :
    settle window tx a = .failed .noResponse := by
  unfold settle
  rw [if_pos h]

theorem settle_ack {window : Nat} {a : FrameAnswer} (h : answerSeen window a = true) (h1 : a.code1 = true)
    (h2 : a.code2 = false) (tx : Tx) :
    settle window tx a = if tx.written.isNone && !readParityEven a then .failed .parity else .done a.data := by
  simp only [settle, h, h1, h2, Bool.true_eq_false, if_false]

theorem settle_nak {window : Nat} {a : FrameAnswer} (h : answerSeen window a = true) (h1 : a.code1 = false)
    (h2 : a.code2 = true) (tx : Tx) : settle window tx a = .failed .nak := by
  simp only [settle, h, h1, h2, Bool.true_eq_false, if_false]

theorem settle_same {window : Nat} {a : FrameAnswer} (h : answerSeen window a = true) (h1 : a.code1 = a.code2)
    (tx : Tx) : settle window tx a = .failed .parity := by
  cases h2 : a.code2 <;> simp only [settle, h, h1, h2, Bool.true_eq_false, if_false]

/-- Settles O19: the request bits field by field, and the outcome by the answer code. -/
theorem framesOfTheLink : Obligations.FramesOfTheLink := by
  unfold Obligations.FramesOfTheLink
  intro tx
  have hbits : tx.requestBits = false :: (tx.coveredBits ++ [oddOnes tx.coveredBits]) := rfl
  have haddr := length_msbFirst 6 tx.addr
  refine ⟨?_, rfl, ?_, fun i hi => ?_, fun v hv i hi => ?_, ?_, fun window a => ⟨fun hn => ?_, fun n hn hle => ?_⟩⟩
  · rw [hbits, tx.coveredBits_eq]
    cases tx.written <;> simp [length_msbFirst]
  · rw [hbits, tx.coveredBits_eq]
    rfl
  · rw [hbits, tx.coveredBits_eq, Nat.add_comm 2 i]
    simp only [List.cons_append, List.getElem?_cons_succ, List.append_assoc]
    rw [List.getElem?_append_left (by omega), getElem?_msbFirst hi]
  · rw [hbits, tx.coveredBits_eq, hv, show 8 + i = 6 + i + 1 + 1 by omega]
    simp only [List.cons_append, List.getElem?_cons_succ, List.append_assoc, Option.map_some, Option.getD_some]
    rw [List.getElem?_append_right (by omega), haddr, Nat.add_sub_cancel_left,
      List.getElem?_append_left (by rw [length_msbFirst]; exact hi), getElem?_msbFirst hi]
  · exact count_with_parity _
  · refine settle_unseen ?_ tx
    unfold answerSeen
    cases ht : a.startBit with
    | none => rfl
    | some t => simpa using hn t ht
  · have hseen : answerSeen window a = true := by simpa [answerSeen, hn] using hle
    refine ⟨fun h1 h2 => settle_nak hseen h1 h2 tx, fun h => settle_same hseen h tx, fun h1 h2 => ⟨fun hw => ?_, fun hw => ?_⟩⟩
    · rw [settle_ack hseen h1 h2, if_neg]
      obtain ⟨v, hv⟩ := Option.isSome_iff_exists.1 hw
      simp [hv]
    · rw [settle_ack hseen h1 h2, hw, readParityEven_eq]
      by_cases hp : ((List.range 8).countP (fun i => a.data.getLsbD i) + a.parity.toNat) % 2 = 0
      · rw [if_pos hp, if_neg (by simp [hp])]
      · rw [if_neg hp, if_pos (by simpa using hp)]

end Sys2Proof.Machine
end

section
/-! The layouts of registers, result words and records (spec/11_record_and_frame_layouts.md). -/

namespace Sys2Proof.Machine

/-! ### Fields of a word -/

/-- A field of a word that is given as a number. -/
theorem word_field {N i k n : Nat} (hN : N < 2 ^ 32) (h : N / 2 ^ i % 2 ^ k = n) :
    ((BitVec.ofNat 32 N).extractLsb' i k).toNat = n := by
  rw [BitVec.extractLsb'_toNat, BitVec.toNat_ofNat, Nat.mod_eq_of_lt hN, Nat.shiftRight_eq_div_pow, h]

/-- A bit of a word that is given as a number. -/
theorem word_bit {N i : Nat} {b : Bool} (hN : N < 2 ^ 32) (h : N / 2 ^ i % 2 = b.toNat) :
    (BitVec.ofNat 32 N).getLsbD i = b := by
  have hbit : (BitVec.ofNat 32 N).getLsbD i = decide (N / 2 ^ i % 2 = 1) := by
    rw [BitVec.getLsbD, BitVec.toNat_ofNat, Nat.mod_eq_of_lt hN, Nat.testBit_eq_decide_div_mod_eq]
  rw [hbit, h]
  cases b <;> rfl

/-- A bit above every bit of the number is clear. -/
theorem word_bit_above {N i k : Nat} (hk : k ≤ 32) (hN : N < 2 ^ k) (h : k ≤ i) :
    (BitVec.ofNat 32 N).getLsbD i = false := by
  have hlt : N < 2 ^ i := hN.trans_le (Nat.pow_le_pow_right (by decide) h)
  refine word_bit (hN.trans_le (Nat.pow_le_pow_right (by decide) hk)) ?_
  rw [Nat.div_eq_of_lt hlt]
  rfl

/-! ### The registers (Table 11-1) -/

theorem deviceCode_lt (d : DeviceState) : deviceCode d < 8 := by cases d <;> decide
theorem errorCodeNat_lt (e : ErrorCode) : errorCodeNat e < 4 := by cases e <;> decide
theorem ringStateCode_lt (r : RingState) : ringStateCode r < 4 := by cases r <;> decide

/-- STATUS as a number, with the bounds of its fields. -/
theorem statusWord_fields (s : State) (N : Nat)
    (h : N = deviceCode s.device + 2 ^ 3 * errorCodeNat s.errorCode + 2 ^ 5 * s.badPost.toNat +
      2 ^ 6 * s.badReturn.toNat + 2 ^ 8 * ringStateCode s.rings[0].state + 2 ^ 10 * ringStateCode s.rings[1].state +
      2 ^ 12 * ringStateCode s.rings[2].state + 2 ^ 14 * ringStateCode s.rings[3].state +
      2 ^ 16 * s.intState.toNat) :
    s.statusWord = BitVec.ofNat 32 N ∧ N < 2 ^ 20 ∧ N / 2 ^ 0 % 2 ^ 3 = deviceCode s.device ∧
      N / 2 ^ 3 % 2 ^ 2 = errorCodeNat s.errorCode ∧ N / 2 ^ 5 % 2 = s.badPost.toNat ∧
      N / 2 ^ 6 % 2 = s.badReturn.toNat ∧ N / 2 ^ 7 % 2 = 0 ∧
      N / 2 ^ 8 % 2 ^ 2 = ringStateCode s.rings[0].state ∧ N / 2 ^ 10 % 2 ^ 2 = ringStateCode s.rings[1].state ∧
      N / 2 ^ 12 % 2 ^ 2 = ringStateCode s.rings[2].state ∧ N / 2 ^ 14 % 2 ^ 2 = ringStateCode s.rings[3].state ∧
      N / 2 ^ 16 % 2 = s.intState.completion.toNat ∧ N / 2 ^ 17 % 2 = s.intState.event.toNat ∧
      N / 2 ^ 18 % 2 = s.intState.error.toNat ∧ N / 2 ^ 19 % 2 = s.intState.state.toNat := by
  have hd := deviceCode_lt s.device
  have he := errorCodeNat_lt s.errorCode
  have h0 := ringStateCode_lt s.rings[0].state
  have h1 := ringStateCode_lt s.rings[1].state
  have h2 := ringStateCode_lt s.rings[2].state
  have h3 := ringStateCode_lt s.rings[3].state
  have hp := Bool.toNat_le s.badPost
  have hr := Bool.toNat_le s.badReturn
  have hc := Bool.toNat_le s.intState.completion
  have hv := Bool.toNat_le s.intState.event
  have hx := Bool.toNat_le s.intState.error
  have hs := Bool.toNat_le s.intState.state
  refine ⟨by rw [h]; rfl, ?_⟩
  simp only [Causes.toNat] at h
  omega

theorem causes_fields (c : Causes) : c.toNat < 2 ^ 4 ∧ c.toNat / 2 ^ 0 % 2 = c.completion.toNat ∧
    c.toNat / 2 ^ 1 % 2 = c.event.toNat ∧ c.toNat / 2 ^ 2 % 2 = c.error.toNat ∧
    c.toNat / 2 ^ 3 % 2 = c.state.toNat := by
  have hc := Bool.toNat_le c.completion
  have hv := Bool.toNat_le c.event
  have hx := Bool.toNat_le c.error
  have hs := Bool.toNat_le c.state
  simp only [Causes.toNat]
  omega

/-- Settles O22: STATUS and INT_ENABLE as sums of fields with their bounds, SETUP_BASE as its two halves. -/
theorem statusReadsItsFields : Obligations.StatusReadsItsFields := by
  unfold Obligations.StatusReadsItsFields
  intro s
  obtain ⟨hw, hN, hdev, herr, hpost, hret, hgap, h0, h1, h2, h3, hc, hv, hx, hs⟩ := statusWord_fields s _ rfl
  have hN' := hN.trans (by decide : 2 ^ 20 < 2 ^ 32)
  obtain ⟨hE, ec, ev, ex, es⟩ := causes_fields s.intEnable
  have hE' := hE.trans (by decide : 2 ^ 4 < 2 ^ 32)
  have hen : s.readRegister .intEnable = BitVec.ofNat 32 s.intEnable.toNat := rfl
  have hlow : (s.readRegister .setupLow).toNat = s.setupBase.toNat % 2 ^ 32 := by
    simp [State.readRegister]
  have hhigh : (s.readRegister .setupHigh).toNat = s.setupBase.toNat / 2 ^ 32 := by
    have := s.setupBase.isLt
    simp only [State.readRegister, BitVec.extractLsb'_toNat, Nat.shiftRight_eq_div_pow]
    omega
  rw [hw, hen]
  refine ⟨hw, word_field hN' hdev, word_field hN' herr, word_bit hN' hpost, word_bit hN' hret, fun q => ?_,
    word_bit hN' hc, word_bit hN' hv, word_bit hN' hx, word_bit hN' hs, rfl, rfl, rfl, rfl, by decide, by decide,
    by decide, word_bit hN' hgap, fun n hn => word_bit_above (by decide) hN hn, word_bit hE' ec, word_bit hE' ev,
    word_bit hE' ex, word_bit hE' es, fun n hn => word_bit_above (by decide) hE hn, hlow, hhigh, fun hcount n hn => ?_⟩
  · match q with
    | 0 => exact word_field hN' h0
    | 1 => exact word_field hN' h1
    | 2 => exact word_field hN' h2
    | 3 => exact word_field hN' h3
  · have haligned : s.setupBase.toNat % 64 = 0 := by simpa [aligned64] using hcount.2.2
    rw [BitVec.getLsbD, Nat.testBit_eq_decide_div_mod_eq, hlow]
    interval_cases n <;> simp <;> omega

end Sys2Proof.Machine
end

section
/-! Lane commands at their activation (chapters 1, 3, 4, 5, 6, 7 and 8): each command that activates is its
effect on the part with its entry open, and each effect finishes the command or changes the lane. -/

namespace Sys2Proof.Machine

/-! ### From a row to its effect -/

/-- A command other than NOP and LANE_DETACH that activates is its effect. -/
theorem exec_activated {s u : State} {r : Request} {l : Fin 16} (h : Activates s r l) (hn : r.cmd ≠ .nop)
    (hd : r.cmd ≠ .laneDetach) (hu : (s.opened r).runCmd r.id r.lane r.cmd = u) : exec r.row s = .next u := by
  rw [exec_row r s hn, takeRecord_activates h, if_neg hd, hu]

theorem Activates.lane {s : State} {r : Request} {l : Fin 16} (h : Activates s r l) :
    laneOfByte r.lane = some l := laneOfByte_of h.2.2.2.1

theorem Lane.closed_iff {L : Lane} : L.closed = true ↔ L.state = .detached ∨ L.state = .detaching := by
  simp [Lane.closed]

theorem Lane.inSync_iff {L : Lane} : L.inSync = true ↔ L.state = .active ∧ L.image.queue = [] ∧
    ∀ a ∈ addresses, (L.image.get a).state ≠ .pending := by
  simp [Lane.inSync, Image.pendingAddr, and_assoc]

/-- Settles O31: SYNC finishes at once in sync and FAULTED, and joins the lane's waiters otherwise. -/
theorem syncWaitsForTheLane : Obligations.SyncWaitsForTheLane := by
  unfold Obligations.SyncWaitsForTheLane
  intro ring tag lane limit s l L r inSync hr h hL hsync
  rw [← Lane.inSync_iff] at hsync
  have hx : exec (.laneSync ring tag lane limit) s = .next ((s.opened r).runSync r.id l limit) := by
    subst hr
    exact exec_activated h nofun nofun (by simp only [State.runCmd, h.lane])
  rw [hx, hsync]
  unfold State.runSync
  simp only [opened_lanes, ← hL]
  refine ⟨fun hc => ?_, fun hi => ?_, fun hf => ?_, fun hi h1 h2 h3 => ?_⟩
  · rw [if_pos (Lane.closed_iff.2 hc), refuse_opened s r _ h.fresh]
  · obtain ⟨hact, hq, -⟩ := Lane.inSync_iff.1 hi
    have hres : syncResult L = resultWord 2 0 0 0 := by simp [syncResult, hact, hq, laneStateCode]
    rw [if_neg (by simp [Lane.closed_iff, hact]), if_pos hi, hres]
    exact congrArg _ (finish_opened s r .ok _ h.fresh)
  · have hres : syncResult L = resultWord 5 L.image.queue.length 0 0 := by simp [syncResult, hf, laneStateCode]
    rw [if_neg (by simp [Lane.closed_iff, hf]), if_neg (by simp [Lane.inSync_iff, hf]), if_pos hf, hres,
      finish_opened s r _ _ h.fresh]
  · rw [if_neg (by simp [Lane.closed_iff, h1, h2]), if_neg hi, if_neg h3]
    rfl

/-- Settles O33: a direct request is refused or joins the tail of the direct list. -/
theorem directRequestsJoinTheList : Obligations.DirectRequestsJoinTheList := by
  unfold Obligations.DirectRequestsJoinTheList
  intro ring tag lane addr value s l L rd wr hL hrd hwr
  refine ⟨fun h => ?_, fun h => ?_⟩
  · have hx : exec (.readDirect ring tag lane addr) s = .next ((s.opened rd).runReadDirect rd.id l addr) := by
      subst hrd
      exact exec_activated h nofun nofun (by simp only [State.runCmd, h.lane])
    rw [hx]
    unfold State.runReadDirect
    simp only [opened_lanes, ← hL]
    refine ⟨fun ha => ?_, fun ha hc => ?_, fun ha ho => ?_⟩
    · rw [if_pos ha, refuse_opened s rd _ h.fresh]
    · rw [if_neg (by omega), if_pos (by rw [Lane.closed_iff]; tauto), refuse_opened s rd _ h.fresh]
    · have hno : ¬ (L.closed = true ∨ L.state = .quiescing) := by
        rw [Lane.closed_iff]
        rcases ho with ho | ho | ho | ho <;> simp [ho]
      rw [if_neg (by omega), if_neg hno]
      rfl
  · have hx : exec (.writeDirect ring tag lane addr value) s =
        .next ((s.opened wr).runWriteDirect wr.id l addr value) := by
      subst hwr
      exact exec_activated h nofun nofun (by simp only [State.runCmd, h.lane])
    rw [hx]
    unfold State.runWriteDirect
    simp only [opened_lanes, ← hL]
    refine ⟨fun ha => ?_, fun h1 h2 hq hf => ?_, fun h1 h2 ho => ?_⟩
    · rw [if_pos ha, refuse_opened s wr _ h.fresh]
    · rw [if_neg (by omega), if_neg (by simp [hq, hf]), refuse_opened s wr _ h.fresh]
    · rw [if_neg (by omega), if_pos ho]
      rfl

/-- Settles O38: a report is captured at the activation, and its write is asked for. -/
theorem reportCapturesTheLane : Obligations.ReportCapturesTheLane := by
  unfold Obligations.ReportCapturesTheLane
  intro ring tag lane buffer s l r hr h
  have hx : exec (.laneReport ring tag lane buffer) s = .next ((s.opened r).runLaneReport r.id l buffer) := by
    subst hr
    exact exec_activated h nofun nofun (by simp only [State.runCmd, h.lane])
  rw [hx]
  unfold State.runLaneReport
  refine ⟨fun hb => ?_, fun hb => ?_⟩
  · rw [if_pos (by simp [aligned64, hb]), refuse_opened s r _ h.fresh]
  · rw [if_neg (by simp [aligned64, hb])]
    rfl

/-- Settles O35: the named flags of the named watches clear. -/
theorem flagsClearClearsNamedFlags : Obligations.FlagsClearClearsNamedFlags := by
  unfold Obligations.FlagsClearClearsNamedFlags
  intro ring tag lane watchMask flagMask s l L ws r hr h hL
  have hx : exec (.flagsClear ring tag lane watchMask flagMask) s =
      .next ((s.opened r).runFlagsClear r.id l watchMask flagMask) := by
    subst hr
    exact exec_activated h nofun nofun (by simp only [State.runCmd, h.lane])
  rw [hx]
  unfold State.runFlagsClear
  simp only [opened_lanes, ← hL]
  refine ⟨fun hc => ?_, fun h1 h2 hw => ?_⟩
  · rw [if_pos (Lane.closed_iff.2 hc), refuse_opened s r _ h.fresh]
  · have hws : clearFlags L.watches watchMask flagMask = ws := by
      refine Vector.ext fun i hi => ?_
      have hi' := hw ⟨i, hi⟩
      simp only [Fin.getElem_fin] at hi'
      simp only [clearFlags, Vector.getElem_ofFn, hi', Flags.clearMask, Fin.getElem_fin]
    rw [if_neg (by simp [Lane.closed_iff, h1, h2]), hws]
    exact congrArg _ (applyOut_opened s r l _ [] _ h.fresh)

/-- A watch of the lane other than `i` is a temperature source. -/
theorem otherSource_iff {ws : Vector Watch 8} {i : Fin 8} :
    otherSource ws i = true ↔ ∃ j : Fin 8, j ≠ i ∧ ws[j].tempSource = true := by
  simp [otherSource, mem_watchIndices]

/-- Settles O34: one watch is replaced, and a POLL of it that is outstanding becomes stale. -/
theorem watchSetReplacesOneWatch : Obligations.WatchSetReplacesOneWatch := by
  unfold Obligations.WatchSetReplacesOneWatch
  intro ring tag lane record s l L r hr h hL
  have hx : exec (.watchSet ring tag lane record) s = .next ((s.opened r).runWatchSet r.id l record) := by
    subst hr
    exact exec_activated h nofun nofun (by simp only [State.runCmd, h.lane])
  rw [hx]
  unfold State.runWatchSet
  simp only [opened_lanes, opened_inFlight, ← hL]
  refine ⟨fun hn => ?_, fun i w stale hw hstale => ?_⟩
  · rw [hn]
    exact congrArg _ (refuse_opened s r _ h.fresh)
  rw [hw]
  simp only [otherSource_iff]
  refine ⟨fun hc => ?_, fun h1 h2 ht hj => ?_, fun h1 h2 hj => ?_⟩
  · rw [if_pos (Lane.closed_iff.2 hc), refuse_opened s r _ h.fresh]
  · rw [if_neg (by simp [Lane.closed_iff, h1, h2]), if_pos ⟨ht, hj⟩, refuse_opened s r _ h.fresh]
  · have hno : ¬ (w.tempSource = true ∧ ∃ j : Fin 8, j ≠ i ∧ L.watches[j].tempSource = true) := by
      rintro ⟨ht, j, hji, hs⟩
      exact absurd (hj ht j hji) (by rw [hs]; decide)
    have hl : L.replaceWatch (s.inFlight l) i w = { L with watches := L.watches.set i w, stalePoll := stale } := by
      have hb : (L.stalePoll || decide (L.pollOutstanding (s.inFlight l) = some i)) = stale := by
        rw [Bool.eq_iff_iff, hstale]
        simp [Lane.pollOutstanding_spec, Lane.PollOf]
      rw [Lane.replaceWatch, hb]
    rw [if_neg (by simp [Lane.closed_iff, h1, h2]), if_neg hno, hl]
    exact congrArg _ (applyOut_opened s r l _ [] _ h.fresh)

/-! ### LANE_ATTACH -/

/-- The binding that a port and a select name. -/
theorem State.attachBinding_eq_some {s : State} {port select : Byte} {b : Binding} :
    s.attachBinding port select = some b ↔
      b.port.val = port.toNat ∧ b.select.val = select.toNat ∧ s.ports[b.port].enabled = true := by
  obtain ⟨p, sel⟩ := b
  unfold State.attachBinding
  constructor
  · intro h
    split at h
    · rename_i hlt
      split at h
      · rename_i hen
        cases h
        exact ⟨rfl, rfl, hen⟩
      · cases h
    · cases h
  · rintro ⟨hp, hsel, hen⟩
    simp only at hp hsel hen
    simp only [← hp, ← hsel]
    exact (dif_pos ⟨p.isLt, sel.isLt⟩).trans (if_pos hen)

/-- A lane is bound there when an attached one is. -/
theorem State.laneAt_isSome {s : State} {b : Binding} : (s.laneAt b).isSome = true ↔
    ∃ m : Fin 16, s.lanes[m].state ≠ .detached ∧ s.lanes[m].binding = some b := by
  simp [State.laneAt, mem_laneIndices, Lane.attached]

/-- Settles O27: the checks in their order, and the probe that begins. -/
theorem attachBeginsAProbe : Obligations.AttachBeginsAProbe := by
  unfold Obligations.AttachBeginsAProbe
  intro ring tag lane port select opts s l r inRange hr h hin
  have hx : exec (.laneAttach ring tag lane port select opts) s =
      .next ((s.opened r).runAttach r.id l port select opts) := by
    subst hr
    exact exec_activated h nofun nofun (by simp only [State.runCmd, h.lane])
  have hiff : inRange ↔ ∃ b o, s.attachBinding port select = some b ∧ optionsOver Options.default opts = some o := by
    rw [hin, Option.isSome_iff_exists]
    constructor
    · rintro ⟨⟨o, ho⟩, hsel, p, hp, hen⟩
      exact ⟨⟨p, ⟨select.toNat, by omega⟩⟩, o, State.attachBinding_eq_some.2 ⟨hp.symm, rfl, hen⟩, ho⟩
    · rintro ⟨b, o, hb, ho⟩
      obtain ⟨hp, hsel, hen⟩ := State.attachBinding_eq_some.1 hb
      exact ⟨⟨o, ho⟩, by omega, b.port, hp.symm, hen⟩
  have hb' : (s.opened r).attachBinding port select = s.attachBinding port select := rfl
  rw [hx]
  unfold State.runAttach
  rw [hb']
  refine ⟨fun hno => ?_, fun hyes hd => ?_, fun hyes hd hbound => ?_, fun b o _ hd hp hsel ho hfree => ?_⟩
  · split
    · rename_i b o hb ho
      exact absurd (hiff.2 ⟨b, o, hb, ho⟩) hno
    · rw [refuse_opened s r _ h.fresh]
  · obtain ⟨b, o, hb, ho⟩ := hiff.1 hyes
    rw [hb, ho]
    exact congrArg _ ((if_pos hd).trans (refuse_opened s r _ h.fresh))
  · obtain ⟨b, o, hb, ho⟩ := hiff.1 hyes
    obtain ⟨m, hm, b', hb'', hport, hselect⟩ := hbound
    obtain ⟨hp, hsel, -⟩ := State.attachBinding_eq_some.1 hb
    have hbb : b' = b := by
      obtain ⟨p1, s1⟩ := b
      obtain ⟨p2, s2⟩ := b'
      exact Binding.mk.injEq .. ▸ ⟨Fin.ext (by simp_all), Fin.ext (by simp_all)⟩
    have hsome : ((s.opened r).laneAt b).isSome = true := State.laneAt_isSome.2 ⟨m, hm, hbb ▸ hb''⟩
    rw [hb, ho]
    exact congrArg _ ((if_neg (not_not.2 hd)).trans ((if_pos hsome).trans (refuse_opened s r _ h.fresh)))
  · have hen : s.ports[b.port].enabled = true := by
      obtain ⟨-, -, p, hp', hen⟩ := hin.1 ‹inRange›
      have : p = b.port := Fin.ext (by omega)
      exact this ▸ hen
    have hnone : ¬ ((s.opened r).laneAt b).isSome = true := fun hs => by
      obtain ⟨m, hm, hmb⟩ := State.laneAt_isSome.1 hs
      exact hfree m hm hmb
    rw [State.attachBinding_eq_some.2 ⟨hp, hsel, hen⟩, ho]
    exact congrArg _ ((if_neg (not_not.2 hd)).trans (if_neg hnone))

/-! ### CHAIN_LOAD -/

/-- Settles O37: the checks in their order, and the load's place in the loader. -/
theorem chainLoadEntersTheLoader : Obligations.ChainLoadEntersTheLoader := by
  unfold Obligations.ChainLoadEntersTheLoader
  intro ring tag lane mode first s l m r hr h
  have hx : exec (.chainLoad ring tag lane mode first) s =
      .next ((s.opened r).runChainLoad r.id l mode first) := by
    subst hr
    exact exec_activated h nofun nofun (by simp only [State.runCmd, h.lane])
  rw [hx]
  unfold State.runChainLoad
  obtain ⟨L, hL⟩ : ∃ L, L = s.lanes[l] := ⟨_, rfl⟩
  simp only [opened_lanes, opened_loader, ← hL]
  refine ⟨fun hbad => ?_, fun hm ha => ?_⟩
  · have hcase : loadMode mode = none ∨ aligned64 first = false := by
      rcases hbad with hbad | hbad
      · refine .inl ?_
        have h0 : mode ≠ 0#8 := by rintro rfl; exact absurd hbad (by decide)
        have h1 : mode ≠ 1#8 := by rintro rfl; exact absurd hbad (by decide)
        rw [loadMode, if_neg h0, if_neg h1]
      · exact .inr (by simp [aligned64, hbad])
    cases hmode : loadMode mode with
    | none => exact congrArg _ (refuse_opened s r _ h.fresh)
    | some x =>
      rw [hmode] at hcase
      have ha := hcase.resolve_left (by simp)
      simp only [ha, if_true]
      rw [refuse_opened s r _ h.fresh]
  · have hmode : loadMode mode = some m := by
      rcases hm with ⟨rfl, rfl⟩ | ⟨rfl, rfl⟩ <;> rfl
    rw [hmode]
    simp only
    rw [if_neg (by simp [aligned64, ha])]
    refine ⟨fun hc => ?_, fun h1 h2 => ?_⟩
    · rw [if_pos (Lane.closed_iff.2 hc), refuse_opened s r _ h.fresh]
    rw [if_neg (by simp [Lane.closed_iff, h1, h2])]
    have hfull_iff (n : Nat) : Config.loaderQueueSize ≤ n ↔ 8 ≤ n := Iff.rfl
    refine ⟨fun hfull => ?_, fun hroom hbusy => ?_, fun hact hdis hq => ?_⟩
    · exact congrArg _ ((if_pos ((hfull_iff _).2 hfull)).trans (refuse_opened s r _ h.fresh))
    · have hno : ¬ (s.loader.active.isNone = true ∧ s.loader.discarded = false ∧
          s.loader.queue.isEmpty = true) := by
        rintro ⟨ha, hd, hq⟩
        simp_all
      exact congrArg _ ((if_neg (by rw [hfull_iff]; exact not_le.2 hroom)).trans (if_neg hno))
    · have hroom : ¬ Config.loaderQueueSize ≤ s.loader.queue.length := by rw [hfull_iff, hq]; decide
      refine congrArg _ ((if_neg hroom).trans ((if_pos ⟨by rw [hact]; rfl, hdis, by rw [hq]; rfl⟩).trans ?_))
      simp [State.nextLoad, hq, State.ask, hdis]

/-! ### LANE_SET, REG_SET and the calibration commands -/

/-- Settles O29: the named options are set, and image and timer follow a changed order and period. -/
theorem laneSetChangesOptions : Obligations.LaneSetChangesOptions := by
  unfold Obligations.LaneSetChangesOptions
  intro ring tag lane opts s l L r hr h hL
  have hx : exec (.laneSet ring tag lane opts) s = .next ((s.opened r).runLaneSet r.id l opts) := by
    subst hr
    exact exec_activated h nofun nofun (by simp only [State.runCmd, h.lane])
  rw [hx]
  unfold State.runLaneSet
  simp only [opened_lanes, ← hL]
  refine ⟨fun hn => ?_, fun o ho => ⟨fun hc => ?_, fun h1 h2 => ?_⟩⟩
  · rw [hn]
    exact congrArg _ (refuse_opened s r _ h.fresh)
  · rw [ho]
    exact congrArg _ ((if_pos (Lane.closed_iff.2 hc)).trans (refuse_opened s r _ h.fresh))
  · rw [ho]
    have hno : ¬ L.closed = true := by simp [Lane.closed_iff, h1, h2]
    exact congrArg _ ((if_neg hno).trans (applySync_opened s r l _ [] _ h.fresh))

/-- Settles O32: the checks in their order, and the change of one layer of one entry. -/
theorem regSetChangesOneLayer : Obligations.RegSetChangesOneLayer := by
  unfold Obligations.RegSetChangesOneLayer
  intro ring tag lane addr layer value present s l L im e v r hr h hL hv
  have hx : exec (.regSet ring tag lane addr layer value present) s =
      .next ((s.opened r).runRegSet r.id l addr layer value present) := by
    subst hr
    exact exec_activated h nofun nofun (by simp only [State.runCmd, h.lane])
  rw [hx]
  unfold State.runRegSet
  simp only [opened_lanes, ← hL, ← hv]
  refine ⟨fun hbad => ?_, fun h1 h2 h3 => ⟨fun hc => ?_, fun hd1 hd2 him he => ?_⟩⟩
  · rw [if_pos hbad, refuse_opened s r _ h.fresh]
  · rw [if_neg (by omega), if_pos (Lane.closed_iff.2 hc), refuse_opened s r _ h.fresh]
  · have himage : L.image.modify addr.toNat (Entry.regSet L.options.layerOrder layer v) = im := by
      rw [him]
      exact congrArg (fun f => L.image.mapEntries f) (by funext a x; rfl)
    rw [if_neg (by omega), if_neg (by simp [Lane.closed_iff, hd1, hd2]), himage, ← he]
    exact congrArg _ (applySync_opened s r l _ [] _ h.fresh)

/-- The index that a CAL_INDEX operand names. -/
theorem indexOperand_of {b : Byte} {i : Option (Fin 32)}
    (h : i = none ∧ b = 0xFF#8 ∨ ∃ k, i = some k ∧ b.toNat = k.val) : indexOperand b = some i := by
  rcases h with ⟨rfl, rfl⟩ | ⟨k, rfl, hk⟩
  · rfl
  · have hne : b ≠ 0xFF#8 := by
      rintro rfl
      have := k.isLt
      simp at hk
      omega
    rw [indexOperand, if_neg hne, dif_pos (by omega)]
    exact congrArg _ (congrArg _ (Fin.ext hk))

/-- An operand outside 0 to 31 and 0xFF names no index. -/
theorem indexOperand_none {b : Byte} (h : 32 ≤ b.toNat) (hne : b ≠ 0xFF#8) : indexOperand b = none := by
  rw [indexOperand, if_neg hne, dif_neg (by omega)]

/-- Settles O36: the checks in their order, and the recall of a changed index or a cleared table. -/
theorem calIndexAndCalClear : Obligations.CalIndexAndCalClear := by
  unfold Obligations.CalIndexAndCalClear
  intro ring tag lane index s l L r q hr hq hL
  refine ⟨fun h => ?_, fun h => ?_⟩
  · have hx : exec (.calIndex ring tag lane index) s = .next ((s.opened r).runCalIndex r.id l index) := by
      subst hr
      exact exec_activated h nofun nofun (by simp only [State.runCmd, h.lane])
    rw [hx]
    unfold State.runCalIndex
    simp only [opened_lanes, ← hL]
    refine ⟨fun h32 hff => ?_, fun i hi => ?_⟩
    · rw [indexOperand_none h32 hff]
      exact congrArg _ (refuse_opened s r _ h.fresh)
    rw [indexOperand_of hi]
    simp only
    refine ⟨fun hc => ?_, fun h1 h2 hm => ?_⟩
    · rw [if_pos (by rw [Lane.closed_iff]; tauto), refuse_opened s r _ h.fresh]
    rw [if_neg (by simp [Lane.closed_iff, h1, h2, hm])]
    refine ⟨fun hsame => ?_, fun hne => ?_⟩
    · rw [Lane.setIndex_same hsame, if_pos hsame, hsame]
      exact congrArg _ (applySync_opened s r l _ [] _ h.fresh)
    · rw [Lane.setIndex_of_ne hne, if_neg hne, Image.recallCount, ← List.countP_eq_length_filter]
      exact congrArg _ (applySync_opened s r l _ _ _ h.fresh)
  · have hx : exec (.calClear ring tag lane) s = .next ((s.opened q).runCalClear q.id l) := by
      subst hq
      exact exec_activated h nofun nofun (by simp only [State.runCmd, h.lane])
    rw [hx]
    unfold State.runCalClear
    simp only [opened_lanes, ← hL]
    refine ⟨fun hc => ?_, fun h1 h2 ht => ?_, fun h1 h2 ht => ?_⟩
    · rw [if_pos (Lane.closed_iff.2 hc), refuse_opened s q _ h.fresh]
    · rw [if_neg (by simp [Lane.closed_iff, h1, h2]), if_pos (by simp [ht])]
      exact congrArg _ (finish_opened s q .ok _ h.fresh)
    · have hcal : ∀ a, calAt [] L.index a = none := fun a => by cases hi : L.index <;> simp [calAt]
      have hrecall : L.image.recall L.options.layerOrder [] L.index =
          L.image.mapEntries fun _ e => e.setLayers L.options.layerOrder e.base e.hold none := by
        simp only [Image.recall, hcal]
      rw [if_neg (by simp [Lane.closed_iff, h1, h2]), if_neg (by simpa using ht), hrecall]
      simp only [Image.recallCount, hcal, ← List.countP_eq_length_filter]
      exact congrArg _ (applySync_opened s q l _ [] _ h.fresh)

/-! ### LANE_QUIESCE and LANE_RESUME -/

/-- Settles O30: QUIESCE and RESUME by the lane's state. -/
theorem quiesceAndResume : Obligations.QuiesceAndResume := by
  unfold Obligations.QuiesceAndResume
  intro ring tag lane s l L r q hr hq hL
  refine ⟨fun h => ?_, fun h => ?_⟩
  · have hx : exec (.laneQuiesce ring tag lane) s = .next ((s.opened r).runQuiesce r.id l) := by
      subst hr
      exact exec_activated h nofun nofun (by simp only [State.runCmd, h.lane])
    rw [hx]
    unfold State.runQuiesce
    simp only [opened_lanes, opened_inFlight, ← hL]
    refine ⟨fun hs hf => ?_, fun tx hs hf => ?_, fun hs => ?_, fun h1 h2 => ?_⟩
    · rw [hs, hf]
      refine congrArg _ ((applyOut_opened s r l _ [] _ h.fresh).trans ?_)
      simp [Lane.out, Lane.quiesceDrop, Image.cutShort, Entry.endWrite, quiesceResult, orFF]
    · rw [hs, hf]
      simp [Lane.quiesce, Lane.quiesceDrop, State.applyOut, Lane.out, completionOrder, setLane_opened]
    · rw [hs]
      exact congrArg _ (finish_opened s r .ok _ h.fresh)
    · rw [← refuse_opened s r _ h.fresh]
      cases hs : L.state with
      | active => exact absurd hs h1
      | quiesced => exact absurd hs h2
      | _ => rfl
  · have hx : exec (.laneResume ring tag lane) s = .next ((s.opened q).runResume q.id l) := by
      subst hq
      exact exec_activated h nofun nofun (by simp only [State.runCmd, h.lane])
    rw [hx]
    unfold State.runResume
    simp only [opened_lanes, ← hL]
    refine ⟨fun hs => ?_, fun h1 h2 => ?_⟩
    · rcases hs with hs | hs <;> rw [hs] <;> rfl
    · rw [← refuse_opened s q _ h.fresh]
      cases hs : L.state with
      | quiesced => exact absurd hs h1
      | faulted => exact absurd hs h2
      | _ => rfl

end Sys2Proof.Machine
end

section
/-! The device and its registers (spec/10_register_window_and_start_up.md, POST and RETURN of spec/08): what a
halt leaves, the control word, RESET and its end, and the register writes. -/

namespace Sys2Proof.Machine

/-! ### Halting, in the words of `State.haltLeft` and `State.stopLeft` -/

theorem State.eventWriteInFlight_iff (s : State) :
    s.eventWriteInFlight = true ↔ ∃ x ∈ s.transfers, x.isEventWrite = true := by
  simp [State.eventWriteInFlight]

theorem State.fetchInFlight_eq_false_iff (s : State) :
    s.fetchInFlight = false ↔ ∀ x ∈ s.transfers, x.isFetch = false := by
  simp [State.fetchInFlight]

/-- What a halt leaves, as the model computes it. -/
theorem State.haltLeft_eq (s : State) (code : ErrorCode) (c : Causes) :
    s.haltLeft code c = State.setCauses c { s.dropPending.ringsOff with device := .halted, errorCode := code } := by
  unfold State.haltLeft State.dropPending State.ringsOff State.addLost
  simp only [← State.eventWriteInFlight_iff]
  rfl

/-- A failed record write halts the part. -/
theorem State.hostWriteHalt_eq (s : State) : s.hostWriteHalt =
    s.haltLeft .hostWrite { completion := false, event := false, error := true, state := true } :=
  (State.haltLeft_eq s _ _).symm

/-- Nothing keeps the part in STOPPING. -/
theorem State.settleStop_eq (s : State) : s.settleStop = s.stopLeft := by
  unfold State.settleStop State.stopLeft
  simp only [List.isEmpty_iff, State.fetchInFlight_eq_false_iff, State.haltLeft_eq]
  rfl

/-- A part that is not STOPPING is left as it is. -/
theorem State.stopLeft_of_ne {s : State} (h : s.device ≠ .stopping) : s.stopLeft = s := if_neg fun h' => h h'.1

@[simp] theorem haltLeft_device (s : State) (code : ErrorCode) (c : Causes) : (s.haltLeft code c).device = .halted := by
  simp [State.haltLeft_eq]

@[simp] theorem haltLeft_table (s : State) (code : ErrorCode) (c : Causes) : (s.haltLeft code c).table = s.table := by
  simp [State.haltLeft_eq]

@[simp] theorem haltLeft_finishList (s : State) (code : ErrorCode) (c : Causes) :
    (s.haltLeft code c).finishList = s.finishList := by
  simp [State.haltLeft_eq]

/-- What the end of STOPPING leaves. -/
theorem State.stopLeft_cases (s : State) : s.stopLeft = s ∨
    s.stopLeft.device = .halted ∧ s.stopLeft.table = [] ∧ s.stopLeft.finishList = [] := by
  unfold State.stopLeft
  split
  · rename_i h
    obtain ⟨-, ht, hf, -⟩ := h
    exact .inr ⟨by simp, by simp [ht], by simp [hf]⟩
  · exact .inl rfl

/-! ### The control word -/

/-- Settles O39: the control word's three bits, and the device state that each command needs. -/
theorem controlTakesOneCommand : Obligations.ControlTakesOneCommand := by
  unfold Obligations.ControlTakesOneCommand
  intro v s
  have hc : exec (.registerWrite .control v) s = .next (s.controlWrite v) := rfl
  have hstart : exec .start s = .next s.controlStart := rfl
  have hstop : exec .stop s = .next s.controlStop := rfl
  have hreset : exec .reset s = .next s.controlReset := rfl
  rw [hc, hstart, hstop, hreset]
  unfold State.controlWrite
  refine ⟨fun h2 => by rw [if_pos h2], fun h2 h0 h1 => by rw [h2, h0, h1]; rfl,
    fun h2 h0 h1 => by rw [h2, h0, h1]; rfl,
    fun h2 h01 => ?_, fun h => ?_, fun hd he => ?_, fun hd => ?_, fun hd => ?_, fun hd => ?_, fun hd => ?_⟩
  · rw [h2, h01]
    cases v.getLsbD 1 <;> rfl
  · rw [State.controlStart, if_neg (by tauto)]
  · rw [State.controlStart, if_pos ⟨hd, he⟩]
    rfl
  · rw [State.controlStop, if_neg hd]
  · refine ⟨_, rfl, ?_⟩
    rw [State.controlStop, if_pos hd, State.settleStop_eq]
    rcases State.stopLeft_cases { ((s.markStopped.finishAll s.stopAborts).stopLanes.stopLoads.withdraw
      Transfer.isReport) with device := .stopping } with h | h
    · exact .inl (by rw [h])
    · exact .inr h
  · rw [State.controlReset, if_pos hd]
  · exact ⟨_, rfl, by rw [State.controlReset, if_neg hd]⟩

/-! ### RESET and its end -/

theorem State.portsIdle_iff (s : State) :
    four.all (fun p => s.ports[p].frame.isNone) = true ↔ ∀ p : Fin 4, s.ports[p].frame = none := by
  simp only [List.all_eq_true, Option.isNone_iff_eq_none]
  exact ⟨fun h p => h p (mem_four p), fun h p _ => h p⟩

/-- Settles O41: RESET lets end what has been started, and RESET_END clears the idle part. -/
theorem resetAndItsEnd : Obligations.ResetAndItsEnd := by
  unfold Obligations.ResetAndItsEnd
  refine ⟨fun s c hc => ?_, fun s => ⟨rfl, fun hd hp ht => ?_, fun h => ?_⟩⟩
  · have hx : exec c s = .next s.controlReset := by rcases hc with rfl | rfl <;> rfl
    rw [hx]
    refine ⟨fun hd => by rw [State.controlReset, if_pos hd], fun hd => ?_⟩
    rw [State.controlReset, if_neg hd]
    refine ⟨_, rfl, rfl, fun p => ?_, rfl⟩
    simp only [Fin.getElem_fin, Vector.getElem_ofFn, Option.isNone_iff_eq_none]
    exact ⟨fun h => if_pos h, fun h => if_neg h⟩
  · have hx : exec .resetEnd s = .next s.endReset := rfl
    rw [hx, State.endReset, if_pos ⟨hd, (State.portsIdle_iff s).2 hp, by rw [ht]; rfl⟩]
    rfl
  · have hx : exec .resetEnd s = .next s.endReset := rfl
    rw [hx, State.endReset, if_neg]
    rintro ⟨hd, hp, ht⟩
    rw [State.portsIdle_iff] at hp
    rw [List.isEmpty_iff] at ht
    rcases h with h | ⟨p, h⟩ | h
    · exact h hd
    · exact h (hp p)
    · exact h ht

/-! ### POST and RETURN -/

theorem State.postWrite_of_active {s : State} {q : Fin 4} (hd : s.device = .running)
    (ha : s.rings[q].state = .active) (tail : BitVec 16) : s.postWrite q tail =
      if tail.toNat < s.rings[q].size then s.setRing q { s.rings[q] with tail := tail.toNat }
      else s.ringError q .postRange := by
  rw [State.postWrite, hd]
  exact if_pos ha

theorem State.postWrite_bad {s : State} {q : Fin 4} (h : (s.device = .running ∧ s.rings[q].state ≠ .active) ∨
    s.device = .starting ∨ s.device = .stopping ∨ s.device = .halted) (tail : BitVec 16) :
    s.postWrite q tail = s.setBadPost := by
  rcases h with ⟨hd, ha⟩ | hd | hd | hd <;> rw [State.postWrite, hd]
  exact if_neg ha

/-- Settles O42: POST by the device state and the ring's. -/
theorem postMovesTheTail : Obligations.PostMovesTheTail := by
  unfold Obligations.PostMovesTheTail
  intro q tail s
  have hx : exec (.post q tail) s = .next (s.postWrite q tail) := rfl
  rw [hx]
  refine ⟨fun hd ha ht => ?_, fun hd ha ht => ?_, fun h => ?_, fun hd => by rw [State.postWrite, hd]⟩
  · rw [State.postWrite_of_active hd ha, if_pos ht]
    rfl
  · rw [State.postWrite_of_active hd ha, if_neg (by omega)]
    rfl
  · rw [State.postWrite_bad h]
    rfl

/-- Forward counting from the head, with the remainder (R151). -/
theorem OutRing.returned_eq {o : OutRing} {n : Nat} (hn : n < o.size) (hh : o.head < o.size) :
    o.returned n = if n = o.head then (if o.occupied = o.size then o.size else 0)
      else (n + o.size - o.head) % o.size := by
  unfold OutRing.returned
  by_cases he : n = o.head
  · rw [if_pos he, if_pos he]
  rw [if_neg he, if_neg he]
  by_cases hlt : o.head < n
  · rw [if_pos hlt, show n + o.size - o.head = n - o.head + o.size by omega, Nat.add_mod_right,
      Nat.mod_eq_of_lt (by omega)]
  · rw [if_neg hlt, Nat.mod_eq_of_lt (by omega)]

/-- A RETURN within the occupied slots is taken. -/
theorem OutRing.giveBack_of {o : OutRing} {h n : Nat} (hlt : h < o.size) (hn : n = o.returned h)
    (hle : n ≤ o.occupied) : o.giveBack h = some { o with head := h, occupied := o.occupied - n } := by
  rw [OutRing.giveBack, if_neg (by omega), hn]

/-- A RETURN beyond the ring or of more slots than are occupied is not taken. -/
theorem OutRing.giveBack_none {o : OutRing} {h : Nat} (hbad : o.size ≤ h ∨ o.occupied < o.returned h) :
    o.giveBack h = none := if_pos hbad

/-- Settles O43: a RETURN in RUNNING or STOPPING gives back the slots counted forward from the head. -/
theorem returnGivesSlotsBack : Obligations.ReturnGivesSlotsBack := by
  unfold Obligations.ReturnGivesSlotsBack
  intro which head s o n bad ho hok hn hbad
  obtain ⟨-, -, hhead, -⟩ := hok
  have hx : exec (.ringReturn which head) s = .next (s.returnWrite which head) := rfl
  have hb : s.setBadReturn = bad := hbad.symm
  have htaken : s.device = .running ∨ s.device = .stopping →
      s.returnWrite which head = s.returnTaken which head.toNat := by
    rintro (hd | hd) <;> rw [State.returnWrite, hd]
  rw [hx]
  refine ⟨fun hd hlt hle => ?_, fun hd hover => ?_, fun hd => ?_, fun hd => by rw [State.returnWrite, hd]⟩
  · have hg := OutRing.giveBack_of hlt (hn.trans (OutRing.returned_eq hlt hhead).symm) hle
    rw [htaken hd]
    cases which <;> simp only at ho <;> rw [ho] at hg <;> simp only [State.returnTaken, hg, ho]
  · have hg : o.giveBack head.toNat = none := by
      refine OutRing.giveBack_none ?_
      by_cases hsize : head.toNat < o.size
      · exact .inr (by rw [OutRing.returned_eq hsize hhead, ← hn]; omega)
      · exact .inl (by omega)
    rw [htaken hd]
    cases which <;> simp only at ho <;> rw [ho] at hg <;> simp only [State.returnTaken, hg, hb]
  · rcases hd with hd | hd <;> rw [State.returnWrite, hd, ← hb]

/-! ### The other registers -/

/-- The six lowest bits of a word cleared. -/
theorem word_aligned_toNat (v : Word) : (v &&& 0xFFFFFFC0#32).toNat = v.toNat / 64 * 64 := by
  have hshift : v.toNat / 64 * 64 = v.toNat >>> 6 <<< 6 := by
    rw [Nat.shiftLeft_eq, Nat.shiftRight_eq_div_pow]
  rw [hshift]
  refine Nat.eq_of_testBit_eq fun i => ?_
  rw [BitVec.toNat_and, Nat.testBit_and, Nat.testBit_shiftLeft, Nat.testBit_shiftRight]
  have hmask : ∀ i < 32, (0xFFFFFFC0#32).toNat.testBit i = decide (i ≥ 6) := by decide
  by_cases hi : i < 32
  · rw [hmask i hi]
    by_cases h6 : i ≥ 6
    · rw [show 6 + (i - 6) = i by omega, Bool.and_comm]
    · simp [h6]
  · have hv : v.toNat.testBit i = false :=
      Nat.testBit_lt_two_pow (v.isLt.trans_le (Nat.pow_le_pow_right (by decide) (by omega)))
    have h6 : 6 + (i - 6) = i := by omega
    rw [h6, hv]
    simp

/-- A doubleword of two words as a number. -/
theorem words_toNat (x y : Word) : (x ++ y).toNat = x.toNat * 2 ^ 32 + y.toNat := by
  rw [BitVec.toNat_append, ← Nat.shiftLeft_add_eq_or_of_lt y.isLt, Nat.shiftLeft_eq]

theorem low_toNat (a : HostAddr) : (a.extractLsb' 0 32).toNat = a.toNat % 2 ^ 32 := by simp

theorem high_toNat (a : HostAddr) : (a.extractLsb' 32 32).toNat = a.toNat / 2 ^ 32 := by
  have := a.isLt
  simp only [BitVec.extractLsb'_toNat, Nat.shiftRight_eq_div_pow]
  omega

/-- The upper half of a word. -/
theorem word_upper (v : Word) : v.extractLsb' 16 16 = BitVec.ofNat 16 (v.toNat / 65536) := by
  refine BitVec.eq_of_toNat_eq ?_
  rw [BitVec.extractLsb'_toNat, BitVec.toNat_ofNat, Nat.shiftRight_eq_div_pow]

theorem postRing_of {v : Word} {q : Fin 4} (h : v.toNat % 4 = q.val) : postRing v = q :=
  Fin.ext (by simpa [postRing] using h)

theorem returnRingOf_even {v : Word} (h : v.toNat % 2 = 0) : returnRingOf v = .cq := by
  simp [returnRingOf, BitVec.getElem_eq_testBit_toNat, h]

theorem returnRingOf_odd {v : Word} (h : v.toNat % 2 = 1) : returnRingOf v = .eq := by
  simp [returnRingOf, BitVec.getElem_eq_testBit_toNat, h]

theorem Transfer.isMessage_eq_false {x : Transfer} (h : x ≠ .message) : x.isMessage = false := by
  cases x with
  | message => exact absurd rfl h
  | _ => rfl

/-- Settles O44: the writes of STATUS, INT_ENABLE, SETUP_BASE and of the registers that are commands. -/
theorem registerWrites : Obligations.RegisterWrites := by
  unfold Obligations.RegisterWrites
  intro v s
  have hstatus : exec (.statusWrite v) s = .next (s.statusCleared v) := rfl
  have henable : exec (.intEnableWrite v) s = .next (s.enableWritten v) := rfl
  have hlow : exec (.registerWrite .setupLow v) s = .next (s.setupLowWritten v) := rfl
  have hhigh : exec (.registerWrite .setupHigh v) s = .next (s.setupHighWritten v) := rfl
  rw [hstatus, henable, hlow, hhigh]
  refine ⟨fun hd => ?_, fun hd => ⟨?_, fun u holds hu hholds => ?_⟩, rfl, rfl, rfl, fun q hq => ?_, fun h0 => ?_,
    fun h1 => ?_, fun hd => ?_, fun hd => ?_⟩
  · rw [State.statusCleared, State.enableWritten, if_pos hd, if_pos hd]
    exact ⟨rfl, rfl⟩
  · rw [State.statusCleared, if_neg hd]
    rfl
  · have hcond (x : Causes) : holds x ↔ interruptCondition s.intState x = true := by
      rw [hholds, interruptCondition_iff]
    have hw : s.enableWritten v = u.messageOnRise (interruptCondition s.intState s.intEnable) := by
      rw [State.enableWritten, if_neg hd, hu]
      rfl
    have hstate : u.intState = s.intState := by rw [hu]
    have htransfers : u.transfers = s.transfers := by rw [hu]
    have hmessages : u.messages = s.messages := by rw [hu]
    obtain ⟨hstill, hrise⟩ := State.messageOnRise_spec u (interruptCondition s.intState s.intEnable)
    rw [hw, hcond, hcond]
    rw [hstate, htransfers, hmessages] at *
    simp only [Bool.not_eq_true]
    refine ⟨fun h => congrArg _ (hstill h), fun hb ha => ⟨fun ht => ?_, fun x xs ht hx => ?_⟩⟩
    · exact congrArg _ ((hrise hb ha).1 ht)
    · exact congrArg _ ((hrise hb ha).2 x xs ht (Transfer.isMessage_eq_false hx))
  · exact congrArg (fun q' => Host.Outcome.next (s.postWrite q' (v.extractLsb' 16 16))) (postRing_of hq) |>.trans
      (by rw [word_upper]; rfl)
  · exact congrArg (fun q' => Host.Outcome.next (s.returnWrite q' (v.extractLsb' 16 16))) (returnRingOf_even h0) |>.trans
      (by rw [word_upper]; rfl)
  · exact congrArg (fun q' => Host.Outcome.next (s.returnWrite q' (v.extractLsb' 16 16))) (returnRingOf_odd h1) |>.trans
      (by rw [word_upper]; rfl)
  · rw [State.setupLowWritten, State.setupHighWritten, if_pos hd, if_pos hd]
    exact ⟨rfl, rfl⟩
  · rw [State.setupLowWritten, State.setupHighWritten, if_neg hd, if_neg hd]
    refine ⟨⟨_, rfl, ?_⟩, ⟨_, rfl, ?_⟩⟩
    · rw [words_toNat, high_toNat, word_aligned_toNat]
    · rw [words_toNat, low_toNat]

end Sys2Proof.Machine
end

section
/-! The Host Port's transfers (spec/07 to spec/10): the setup read, the fetch of a record, and the writes of
completions, events and reports. -/

namespace Sys2Proof.Machine

/-! ### Starts -/

/-- The transfer at the head starts. -/
theorem State.startHead_of {s : State} {t : Transfer} {ts : List Transfer} {p : Transfer → Bool}
    (h : s.transfers = t :: ts) (hp : p t = true) (hs : t.started = false) :
    s.startHead p = { s with transfers := t.start :: ts } := by
  simp [State.startHead, h, hp, hs]

/-! ### The setup read -/

theorem four_any {p : Fin 4 → Bool} : four.any p = true ↔ ∃ q : Fin 4, p q = true := by
  simp only [List.any_eq_true]
  exact ⟨fun ⟨q, _, h⟩ => ⟨q, h⟩, fun ⟨q, h⟩ => ⟨q, mem_four q, h⟩⟩

theorem four_all {p : Fin 4 → Bool} : four.all p = true ↔ ∀ q : Fin 4, p q = true := by
  simp only [List.all_eq_true]
  exact ⟨fun h q => h q (mem_four q), fun h q _ => h q⟩

theorem State.portBound_iff (s : State) (p : Fin 4) : s.portBound p = true ↔
    ∃ l : Fin 16, s.lanes[l].state ≠ .detached ∧ s.lanes[l].binding.map (·.port) = some p := by
  simp [State.portBound, mem_laneIndices, Lane.attached]

theorem aligned64_iff (a : HostAddr) : aligned64 a = true ↔ a.toNat % 64 = 0 := by simp [aligned64]

theorem RingSetup.subOk_iff (r : RingSetup) : r.subOk = true ↔
    (r.on = true → r.size ∈ ringSizes ∧ r.base.toNat % 64 = 0 ∧ r.rights.toNat ≤ 1) := by
  rw [← aligned64_iff, ← and_assoc, ← RingSetup.placed_iff, byte_le_one_iff]
  cases hon : r.on <;> simp [RingSetup.subOk, hon]

theorem PortSetup.ok_iff (p : PortSetup) : p.ok = true ↔
    (p.enabled = true → p.bitRate ∈ [1, 2, 4, 8] ∧ 8 ≤ p.window ∧ p.window ≤ 64) := by
  cases hen : p.enabled <;> simp [PortSetup.ok, hen]

/-- The checks of R168. -/
theorem setupPasses_iff (bs : List Byte) : setupPasses bs = true ↔
    (∃ q : Fin 4, (setupRing bs q).on = true) ∧
    (∀ q : Fin 4, (setupRing bs q).on = true → (setupRing bs q).size ∈ ringSizes ∧
      (setupRing bs q).base.toNat % 64 = 0 ∧ (setupRing bs q).rights.toNat ≤ 1) ∧
    (∀ r, r = setupCq bs ∨ r = setupEq bs → r.on = true ∧ r.size ∈ ringSizes ∧ r.base.toNat % 64 = 0) ∧
    ∀ p : Fin 4, (setupPort bs p).enabled = true → (setupPort bs p).bitRate ∈ [1, 2, 4, 8] ∧
      8 ≤ (setupPort bs p).window ∧ (setupPort bs p).window ≤ 64 := by
  simp only [setupPasses, Bool.and_eq_true, four_any, four_all, RingSetup.subOk_iff, PortSetup.ok_iff,
    RingSetup.placed_iff, aligned64_iff, forall_eq_or_imp, forall_eq, and_assoc]

/-- Settles O45: the setup read's start, its failures, and the part that a block which passes leaves. -/
theorem setupReadStartsThePart : Obligations.SetupReadStartsThePart := by
  unfold Obligations.SetupReadStartsThePart
  rintro s u a ts passes rfl
  have hend (ht : s.transfers = .setupRead a true :: ts) (result : HostRead) :
      exec (.setupReadEnd result) s =
        .next (if s.device = .starting then (s.ended ts).setupEnd result else s.ended ts) := by
    change execSetupReadEnd result s = _
    rw [execSetupReadEnd, ht]
  refine ⟨fun ht => congrArg _ (State.startHead_of ht rfl rfl), fun ht hd result => ?_, fun ht hd hpass => ?_⟩
  · rw [hend ht, if_neg hd]
    rfl
  simp only [← setupPasses_iff] at hpass
  refine ⟨by rw [hend ht, if_pos hd]; rfl, fun bs => ⟨fun hno => ?_, fun hyes => ?_⟩⟩
  · rw [hend ht, if_pos hd, State.setupEnd]
    exact congrArg _ (if_neg (by rwa [← hpass]))
  · rw [hend ht, if_pos hd, State.setupEnd]
    refine ⟨_, _, congrArg _ (if_pos ((hpass bs).1 hyes)), fun q => ?_, fun p => ?_⟩
    · simp only [Fin.getElem_fin, Vector.getElem_ofFn]
      exact ⟨rfl, rfl, rfl, rfl, rfl, rfl⟩
    · simp only [Fin.getElem_fin, Vector.getElem_ofFn, State.portBound_iff]
      rfl

/-! ### The fetch of a record -/

theorem SubRing.waiting_iff (r : SubRing) : r.waiting = true ↔ r.state = .active ∧ r.head ≠ r.tail := by
  simp [SubRing.waiting]

/-- The first ring in round-robin order. -/
theorem find_after {w : Fin 4 → Bool} {p q : Fin 4} (hq : w q = true)
    (hfirst : ∀ j, (j - p - 1).val < (q - p - 1).val → w j = false) : (after p).find? w = some q := by
  obtain ⟨k, rfl⟩ : ∃ k : Fin 4, q = p + 1 + k := ⟨q - p - 1, by abel⟩
  have hsub (k : Fin 4) : p + 1 + k - p - 1 = k := by abel
  have hskip (i : Fin 4) (hi : i.val < k.val) : w (p + 1 + i) = false := hfirst _ (by rwa [hsub, hsub])
  have hlist : after p = [p + 1 + 0, p + 1 + 1, p + 1 + 2, p + 1 + 3] := by
    clear hskip hfirst hq
    revert p
    decide
  rw [hlist]
  match k with
  | 0 => simp only [List.find?_cons, hq]
  | 1 => simp only [List.find?_cons, hskip 0 (by decide), hq]
  | 2 => simp only [List.find?_cons, hskip 0 (by decide), hskip 1 (by decide), hq]
  | 3 => simp only [List.find?_cons, hskip 0 (by decide), hskip 1 (by decide), hskip 2 (by decide), hq]

theorem mem_after (p q : Fin 4) : q ∈ after p := by revert p q; decide

/-- Settles O46: the first waiting ring past the intake pointer is fetched from. -/
theorem fetchAsksForARecord : Obligations.FetchAsksForARecord := by
  unfold Obligations.FetchAsksForARecord
  intro s q waits hwaits
  have hw (j : Fin 4) : waits j ↔ s.rings[j].waiting = true := by rw [hwaits, SubRing.waiting_iff]
  have hx : exec .fetchStart s = execFetchStart s := rfl
  rw [hx]
  unfold execFetchStart
  refine ⟨fun hd hf ht hl hq hfirst => ?_, fun h => ?_⟩
  · have hring : s.intakeRing = some q := find_after ((hw q).1 hq) fun j hj => by
      simpa [hw] using hfirst j hj
    rw [if_pos ⟨hd, hf, by simpa [State.tableFree, hf, Config.tableSize] using ht, by rw [hl]; rfl⟩, hring]
    rfl
  · split
    · rename_i hopen
      obtain ⟨hd, hf, ht, hl⟩ := hopen
      have hlen : s.table.length < 32 := by simpa [State.tableFree, hf, Config.tableSize] using ht
      have hnone : ∀ j, ¬ waits j := by
        rcases h with h | h | h | h | h
        · exact absurd hd h
        · exact absurd hf (by rw [h]; decide)
        · omega
        · exact absurd (List.isEmpty_iff.1 hl) h
        · exact h
      have hring : s.intakeRing = none := List.find?_eq_none.2 fun j _ hj => hnone j ((hw j).2 hj)
      rw [hring]
    · rfl

/-- A NOP whose ring and tag are free completes with the number of entries. -/
theorem accept_nop {s : State} {r : Request} (hc : r.cmd = .nop) (h : ∀ e ∈ s.table, e.id ≠ r.id) :
    s.accept r = s.completed r .ok (some (resultWord (s.table.length + 1) 0 0 0)) := by
  have hdup : (s.table.any fun e => decide (e.id = r.id)) = false := by simpa using h
  have henter : s.enter r = (s.opened r).runNop r.id := by
    rw [State.enter, hc, if_neg (by simp [Cmd.namesLane]), heldBack_nop, if_neg (by simp), runCmd_nop]
    rfl
  rw [State.accept, hc, permits_nop, if_neg (by simp), if_neg (by simp [hdup]), if_neg nofun, henter,
    runNop_opened s r h]

/-- Settles O47: by the device state, the ring's state and what the fetch brought. -/
theorem fetchTakesTheRecord : Obligations.FetchTakesTheRecord := by
  unfold Obligations.FetchTakesTheRecord
  rintro s u v w q a ts next ht rfl rfl rfl rfl
  have hend (result : HostRead) : exec (.fetchEnd result) s = .next (if s.device = .resetting then s.afterTransfer ts
      else (s.afterTransfer ts).fetchEnds q result) := by
    change execFetchEnd result s = _
    rw [execFetchEnd, ht]
    rfl
  have hrings : (s.afterTransfer ts).rings = s.rings := rfl
  have hdev : (s.afterTransfer ts).device = s.device := rfl
  have hactive (result : HostRead) (ha : s.rings[q].state = .active) :
      (if (s.afterTransfer ts).rings[q].state = .active then (s.afterTransfer ts).fetchTaken q result
        else s.afterTransfer ts) = (s.afterTransfer ts).fetchTaken q result := if_pos ha
  refine ⟨fun hd result => by rw [hend, if_pos hd], fun hd ha result => ?_, fun hd ha => ?_, fun hd ha => ?_,
    fun hd ha bs id hid => ?_⟩
  · have hkeep : (if (s.afterTransfer ts).rings[q].state = .active then (s.afterTransfer ts).fetchTaken q result
        else s.afterTransfer ts) = s.afterTransfer ts := if_neg ha
    rw [hend, if_neg hd, State.fetchEnds, hkeep, State.settleStop_eq, hdev]
    by_cases hs : s.device = .stopping
    · rw [if_pos hs]
    · rw [if_neg hs, State.stopLeft_of_ne (by rwa [hdev])]
  · rw [hend, if_neg (by rw [hd]; decide), State.fetchEnds, hactive _ ha, if_neg (by rw [hdev, hd]; decide)]
    rfl
  · have hstop (result : HostRead) :
        exec (.fetchEnd result) s = .next ((s.afterTransfer ts).fetchTaken q result).stopLeft := by
      rw [hend, if_neg (by rw [hd]; decide), State.fetchEnds, hactive _ ha, if_pos (by rw [hdev, hd]),
        State.settleStop_eq]
    refine ⟨hstop .error, fun bs => ?_⟩
    rw [hstop, State.fetchTaken]
    simp only
    rw [if_neg (by rw [hdev, hd]; decide)]
  · obtain ⟨v, hv⟩ : ∃ v : State, v = { s.afterTransfer ts with rings := s.rings.set q { s.rings[q] with
        head := if s.rings[q].head + 1 < s.rings[q].size then s.rings[q].head + 1 else 0 } } := ⟨_, rfl⟩
    rw [← hv]
    have htaken : exec (.fetchEnd (.data bs)) s = .next (v.acceptBytes q bs) := by
      rw [hend, if_neg (by rw [hd]; decide), State.fetchEnds, hactive _ ha, if_neg (by rw [hdev, hd]; decide),
        State.fetchTaken]
      simp only
      rw [if_pos (by rw [hdev, hd]), hv]
      rfl
    have htable : v.table = s.table := by rw [hv]; rfl
    have hfinish : v.finishList = s.finishList := by rw [hv]; rfl
    have hid' : ({ ring := q, tag := readTag bs } : CmdId) = id := hid.symm
    rw [htaken, State.acceptBytes, hid']
    refine ⟨fun hn => ?_, fun c r hc hr => ⟨fun hne hopen => ?_, fun hnop hfresh => ?_⟩⟩
    · rw [hn]
      simp only [State.refuseRecord, hfinish]
    · have hring : r.id.ring = q := by rw [hr, hid]
      rw [hc, exec_row r v (by rw [hr]; exact hne), State.takeRecord, if_pos (by rw [hring]; exact hopen), hr]
      rfl
    · have hacc := accept_nop (s := v) (r := r) (by rw [hr]; exact hnop) (by rw [htable, hr]; exact hfresh)
      rw [hc, ← htable, ← hacc, hr]
      rfl

/-! ### Completion writes -/

theorem DeviceState.writes_iff (d : DeviceState) : d.writes = true ↔ d = .running ∨ d = .stopping := by
  simp [DeviceState.writes]

/-- The entry of a command among entries of distinct names. -/
theorem State.entry_of_mem {s : State} {e : OctEntry} (hn : (s.table.map (·.id)).Nodup) (he : e ∈ s.table) :
    s.entry e.id = some e := by
  unfold State.entry
  obtain ⟨table, ht⟩ : ∃ table, table = s.table := ⟨_, rfl⟩
  rw [← ht] at hn he ⊢
  clear ht
  induction table with
  | nil => exact absurd he (by simp)
  | cons f fs ih =>
    obtain ⟨hnew, hn⟩ := List.nodup_cons.1 (List.map_cons ▸ hn)
    rcases List.mem_cons.1 he with rfl | hmem
    · exact List.find?_cons_of_pos (by simp)
    · have hne : f.id ≠ e.id := fun h => hnew (List.mem_map.2 ⟨e, hmem, h.symm⟩)
      rw [List.find?_cons_of_neg (by simpa using hne)]
      exact ih hmem hn

/-- Settles O48: the record of the finish list's head, and what the end of its write leaves. -/
theorem completionsAreWritten : Obligations.CompletionsAreWritten := by
  unfold Obligations.CompletionsAreWritten
  intro s
  have hstart : exec .completionWriteStart s = execCompletionWriteStart s := rfl
  have hend {a record ts} (ht : s.transfers = .completionWrite a record :: ts) (result : HostWrite) :
      exec (.completionWriteEnd result) s = .next (if s.device = .resetting then s.afterTransfer ts
        else match result with
          | .ok => (s.afterTransfer ts).completionWritten
          | .error => if s.device.writes then (s.afterTransfer ts).hostWriteHalt else s.afterTransfer ts) := by
    change execCompletionWriteEnd result s = _
    rw [execCompletionWriteEnd, ht]
    cases result <;> rfl
  refine ⟨fun hf => ?_, fun a record ts result hd ht => ?_, fun item rest hf => ?_⟩
  · rw [hstart, execCompletionWriteStart, hf]
  · rw [hend ht, if_pos hd]
  have hasks : exec .completionWriteStart s =
      if s.device.writes = true ∧ s.cq.occupied < s.cq.size ∧ s.completionWriteInFlight = false then
        .next (s.ask (.completionWrite s.cq.slotAddr (s.completionOf item)))
      else .next s := by
    rw [hstart, execCompletionWriteStart, hf]
  refine ⟨fun id lane status hi => ?_, fun hn e status detail result hi he hst => ?_, fun hd hroom hfree => ?_,
    fun h => ?_, fun a record ts v u table ht hv htable hu => ?_⟩
  · rw [hi]
    rfl
  · rw [hi]
    unfold State.completionOf
    simp only [State.entry_of_mem hn he, hst]
    by_cases hc : e.cmd = .nop <;> simp [Cmd.namesLane, hc]
  · rw [hasks, if_pos ⟨(DeviceState.writes_iff _).2 hd, hroom, hfree⟩]
    rfl
  · rw [hasks]
    refine if_neg ?_
    rintro ⟨hw, hroom, hfree⟩
    rw [DeviceState.writes_iff] at hw
    rcases h with h | h | h | h | h
    · rw [h] at hw; simp at hw
    · rw [h] at hw; simp at hw
    · rw [h] at hw; simp at hw
    · omega
    · rw [h] at hfree; simp at hfree
  · have hdev : v.device = s.device := by rw [hv]; rfl
    have hudev : u.device = s.device := by rw [hu, State.setCauses_device]; exact hdev
    have hucode : u.errorCode = s.errorCode := by rw [hu, State.setCauses_errorCode, hv]; rfl
    have hutable : u.table = table := by rw [hu, State.setCauses_table]
    have hufinish : u.finishList = rest := by rw [hu, State.setCauses_finishList]
    have hufetch : (∀ x ∈ u.transfers, x.isFetch = false) ↔ ∀ x ∈ ts, x.isFetch = false := by
      have hcount : u.transfers.countP Transfer.isFetch = ts.countP Transfer.isFetch := by
        rw [hu, State.setCauses_countP _ _ rfl, hv]
        exact State.ended_countP s ts rfl
      have hzero : u.transfers.countP Transfer.isFetch = 0 ↔ ts.countP Transfer.isFetch = 0 := by rw [hcount]
      simpa only [List.countP_eq_zero, Bool.not_eq_true] using hzero
    rw [hend ht, hend ht]
    refine ⟨fun hd => ?_, fun h => ?_, fun hd hr htab hfet => ?_, fun hd => ?_, fun hd => ?_⟩
    · rw [if_neg hd]
      have hpop : ({ (s.afterTransfer ts).popFinished with cq := (s.afterTransfer ts).cq.written } : State) =
          { v with finishList := rest, table := table, cq := s.cq.written } := by
        have hf' : (s.afterTransfer ts).finishList = item :: rest := hf
        rw [hv, htable, State.popFinished, hf']
        cases item <;> rfl
      change Host.Outcome.next (State.completionWritten (s.afterTransfer ts)) = _
      rw [State.completionWritten, hpop, State.settleStop_eq, hu]
      rfl
    · refine if_neg ?_
      rintro ⟨hd', ht', hf', hx'⟩
      rw [hudev] at hd'
      rw [hutable] at ht'
      rw [hufinish] at hf'
      rw [hufetch] at hx'
      rcases h with h | h | h | ⟨x, hx, hxf⟩
      · exact h hd'
      · exact h hf'
      · exact h ht'
      · exact absurd hxf (by rw [hx' x hx]; decide)
    · rw [← hucode]
      exact if_pos ⟨by rw [hudev, hd], by rw [hutable, htab], by rw [hufinish, hr], hufetch.2 hfet⟩
    · rw [if_neg (by rcases hd with hd | hd <;> rw [hd] <;> decide), hv, ← State.hostWriteHalt_eq]
      exact congrArg _ (if_pos ((DeviceState.writes_iff _).2 hd))
    · rw [if_neg (by rcases hd with hd | hd <;> rw [hd] <;> decide), hv]
      exact congrArg _ (if_neg (by rw [DeviceState.writes_iff]; rcases hd with hd | hd <;> rw [hd] <;> simp))

/-! ### Event writes and report writes -/

/-- Settles O49: the record of the first pending event, and what the end of its write leaves. -/
theorem eventsAreWritten : Obligations.EventsAreWritten := by
  unfold Obligations.EventsAreWritten
  intro s
  have hstart : exec .eventWriteStart s = execEventWriteStart s := rfl
  have hend {a record carried ts} (ht : s.transfers = .eventWrite a record carried :: ts) (result : HostWrite) :
      exec (.eventWriteEnd result) s = .next (if s.device = .resetting then s.afterTransfer ts
        else match result with
          | .ok => (s.afterTransfer ts).eventWritten carried
          | .error => if s.device.writes then (s.afterTransfer ts).hostWriteHalt
            else (s.afterTransfer ts).eventLost) := by
    change execEventWriteEnd result s = _
    rw [execEventWriteEnd, ht]
    cases result <;> rfl
  refine ⟨fun hp => ?_, fun a record carried ts result hd ht => ?_, fun e es hp => ?_⟩
  · rw [hstart, execEventWriteStart, hp]
  · rw [hend ht, if_pos hd]
  have hasks : exec .eventWriteStart s =
      if s.device.writes = true ∧ s.eventWriteInFlight = false then
        .next (s.ask (.eventWrite s.eq.ring.slotAddr (eventRecord e s.eq.lost s.eq.ring.phase) s.eq.lost))
      else .next s := by
    rw [hstart, execEventWriteStart, hp]
  refine ⟨fun hd hfree => ?_, fun h => ?_, fun a record carried ts v ht hv => ?_⟩
  · rw [hasks, if_pos ⟨(DeviceState.writes_iff _).2 hd, hfree⟩]
    rfl
  · rw [hasks]
    refine if_neg ?_
    rintro ⟨hw, hfree⟩
    rw [DeviceState.writes_iff] at hw
    rcases h with h | h | h | h
    · rw [h] at hw; simp at hw
    · rw [h] at hw; simp at hw
    · rw [h] at hw; simp at hw
    · rw [h] at hfree; simp at hfree
  · have heq : v.eq = s.eq := by rw [hv]; rfl
    rw [hend ht, hend ht, ← hv]
    refine ⟨fun hd => ?_, fun hd hts => ⟨?_, ?_⟩, fun hd => ?_⟩
    · rw [if_neg hd]
      simp only [State.eventWritten, heq, hp]
      rfl
    · rw [if_neg (by rcases hd with hd | hd <;> rw [hd] <;> decide), ← State.hostWriteHalt_eq]
      exact congrArg _ (if_pos ((DeviceState.writes_iff _).2 hd))
    · have hnone : v.eventWriteInFlight = false := by
        have hcount : v.transfers.countP Transfer.isEventWrite = 0 := by
          rw [hv]
          exact (State.ended_countP s ts rfl).trans hts
        simpa [State.eventWriteInFlight, List.countP_eq_zero] using hcount
      rw [State.haltLeft_eq, State.setCauses_eq]
      simp only [State.ringsOff, State.dropPending, State.addLost, hnone, heq]
      rfl
    · rw [if_neg (by rcases hd with hd | hd <;> rw [hd] <;> decide)]
      have hw : ¬ s.device.writes = true := by rw [DeviceState.writes_iff]; rcases hd with hd | hd <;> rw [hd] <;> simp
      simp only [if_neg hw, State.eventLost, State.addLost, heq, hp]
      rfl

/-- Settles O52: the report write's start and its four ends. -/
theorem reportsAreWritten : Obligations.ReportsAreWritten := by
  unfold Obligations.ReportsAreWritten
  rintro s u id a report ts rfl
  refine ⟨fun ht => congrArg _ (State.startHead_of ht rfl rfl), fun ht => ?_⟩
  have hend (result : HostWrite) : exec (.reportWriteEnd result) s = .next (if s.device = .resetting
      then s.afterTransfer ts else (s.afterTransfer ts).reportWritten id report result) := by
    change execReportWriteEnd result s = _
    rw [execReportWriteEnd, ht]
    rfl
  have hstopped : (s.afterTransfer ts).stopped id = s.stopped id := rfl
  refine ⟨fun hd result => by rw [hend, if_pos hd], fun hd hs result => ?_, fun hd hs => ⟨?_, ?_⟩⟩
  · unfold State.reportWritten at hend
    rw [hend, if_neg hd, hstopped, if_pos hs]
    rfl
  · rw [hend, if_neg hd, State.reportWritten, hstopped, hs]
    rfl
  · rw [hend, if_neg hd, State.reportWritten, hstopped, hs]
    rfl

end Sys2Proof.Machine
end

section
/-! The Chain Loader's reads and its commit (spec/07_configuration_chains.md). -/

namespace Sys2Proof.Machine

/-! ### Block reads -/

theorem blockNext_eq (bs : List Byte) : blockNext bs = le64 bs 8 := rfl

/-- Settles O50: a block read's start, the discarded read, and the read of the active load by what it brought. -/
theorem blockReadsEnd : Obligations.BlockReadsEnd := by
  unfold Obligations.BlockReadsEnd
  rintro s u a ts rfl
  have hend (ht : s.transfers = .blockRead a true :: ts) (result : HostRead) :
      exec (.blockReadEnd result) s = .next (if s.device = .resetting then s.afterTransfer ts
        else (s.afterTransfer ts).blockEnd result) := by
    change execBlockReadEnd result s = _
    rw [execBlockReadEnd, ht]
    rfl
  have hloader : (s.afterTransfer ts).loader = s.loader := rfl
  refine ⟨fun ht => congrArg _ (State.startHead_of ht rfl rfl), fun ht hd result => by rw [hend ht, if_pos hd],
    fun ht hd hdis hact result => ?_, fun d ends ht hd hdis hact hends => ?_⟩
  · rw [hend ht, if_neg hd, State.blockEnd, hloader, if_pos hdis]
  have htaken (result : HostRead) :
      exec (.blockReadEnd result) s = .next ((s.afterTransfer ts).blockTaken d result) := by
    rw [hend ht, if_neg hd, State.blockEnd, hloader, if_neg (by rw [hdis]; decide), hact]
  have hstopped : (s.afterTransfer ts).stopped d.id = s.stopped d.id := rfl
  have hloads (status : Status) (detail : Option Detail) (position blocks : Nat) :
      (s.afterTransfer ts).loadEnds d status detail position blocks = ends status detail position blocks :=
    (hends status detail position blocks).symm
  refine ⟨fun hst result => ?_, fun hst => ⟨?_, fun bs => ⟨fun err herr => ?_, fun st hst' => ?_⟩⟩⟩
  · unfold State.blockTaken at htaken
    rw [htaken, hstopped, if_pos hst, hloads]
  · rw [htaken, State.blockTaken, hstopped, hst, ← hloads]
    rfl
  · rw [htaken, State.blockTaken, hstopped, hst, hloader, herr, ← hloads]
    rfl
  · have hpassed : exec (.blockReadEnd (.data bs)) s =
        .next ((s.afterTransfer ts).blockPassed d (le64 bs 8) st) := by
      rw [htaken, State.blockTaken, hstopped, hst, hloader, hst']
      rfl
    rw [hpassed]
    unfold State.blockPassed
    refine ⟨fun h0 => ?_, fun h0 hp => ?_, fun h0 hp => ?_⟩
    · rw [if_pos h0]
      rfl
    · rw [if_neg h0, if_pos (show Config.chainBlocks ≤ _ from hp), hloads]
    · rw [if_neg h0, if_neg (show ¬ Config.chainBlocks ≤ _ from by simpa [Config.chainBlocks] using hp)]
      rfl

/-! ### What a commit applies, in the words of the claim -/

theorem any_target_iff (table : List Column) (target : Nat) :
    (table.any fun d => d.target == target) = true ↔ ∃ d ∈ table, d.target = target := by simp

theorem mergeColumn_eq (table : List Column) (c : Column) :
    mergeColumn table c = if ∃ d ∈ table, d.target = c.target
      then table.map fun d => if d.target = c.target then c else d else table ++ [c] := by
  unfold mergeColumn
  simp only [any_target_iff]

theorem tableAfter_eq (mode : LoadMode) (table : List Column) (st : Staging) :
    tableAfter mode table st = if st.columns = [] then table
      else if mode = .replace then st.columns.map (·.column)
      else st.columns.foldl (fun t c => mergeColumn t c.column) table := by
  unfold tableAfter
  simp only [List.isEmpty_iff]
  cases mode <;> rfl

/-- The staged action of each address, and none elsewhere. -/
theorem actionAt_eq {st : Staging} {act : Nat → Option BaseAction} (hact : ∀ x : Fin 63, act (x.val + 1) = st.base[x])
    (h0 : act 0 = none) (hout : ∀ x, 63 < x → act x = none) (a : Nat) : st.actionAt a = act a := by
  unfold Staging.actionAt
  split
  · rename_i h
    obtain ⟨b, rfl⟩ : ∃ b, a = b + 1 := ⟨a - 1, by omega⟩
    exact (hact ⟨b, by omega⟩).symm
  · rename_i h
    rcases Nat.eq_zero_or_pos a with rfl | ha
    · exact h0.symm
    · exact (hout a (by omega)).symm

/-- Nothing is staged for BASE when no address has an action. -/
theorem hasBase_eq_false_iff {st : Staging} {act : Nat → Option BaseAction}
    (hact : ∀ x : Fin 63, act (x.val + 1) = st.base[x]) :
    st.hasBase = false ↔ ∀ y ∈ addresses, act y = none := by
  unfold Staging.hasBase
  simp only [List.any_eq_false, Vector.mem_toList_iff, Option.not_isSome_iff_eq_none]
  constructor
  · intro h y hy
    obtain ⟨h1, h2⟩ := mem_addresses.1 hy
    obtain ⟨b, rfl⟩ : ∃ b, y = b + 1 := ⟨y - 1, by omega⟩
    exact (hact ⟨b, by omega⟩).trans (h _ (Vector.getElem_mem _))
  · intro h x hx
    obtain ⟨i, hi, rfl⟩ := Vector.getElem_of_mem hx
    exact (hact ⟨i, hi⟩).symm.trans (h _ (mem_addresses.2 ⟨by omega, by omega⟩))

/-- The base layer after a commit by the staged action. -/
theorem baseAfter_eq (mode : LoadMode) (st : Staging) (a : Nat) (e : Entry) :
    (st.hasBase = false → baseAfter mode st a e = e.base) ∧
    (st.hasBase = true → (∀ v, st.actionAt a = some (.set v) → baseAfter mode st a e = some v) ∧
      (st.actionAt a = some .clear → baseAfter mode st a e = none) ∧
      (st.actionAt a = none → baseAfter mode st a e = if mode = .replace then none else e.base)) := by
  unfold baseAfter
  refine ⟨fun h => by rw [h]; rfl, fun h => ⟨fun v hv => ?_, fun hc => ?_, fun hn => ?_⟩⟩
  · rw [if_pos h, hv]
  · rw [if_pos h, hc]
  · rw [if_pos h, hn]
    cases mode <;> rfl

theorem commitStales_iff (L : Lane) (o : Option Tx) (st : Staging) :
    commitStales L o st = true ↔ ∃ i : Fin 8, L.PollOf o i ∧ st.watches[i].isSome = true := by
  simp only [← Lane.pollOutstanding_spec]
  unfold commitStales
  cases L.pollOutstanding o <;> simp

/-! ### The checks of a commit -/

/-- The column that would be the ninth is found at its place among the staged ones. -/
theorem ninthBlock_eq {table : List Column} {c : StagedColumn} {new : Column → Bool}
    (hnew : ∀ x, new x = true ↔ ∀ y ∈ table, y.target ≠ x.target) (hc : new c.column = true) {cs : List StagedColumn}
    {n k : Nat} (hk : cs[k]? = some c) (hn : n + (cs.take k).countP (fun x => new x.column) = 8) :
    ninthBlock table n cs = c.block := by
  have hany (x : Column) : (table.any fun d => d.target == x.target) = !new x := by
    rw [Bool.eq_iff_iff, any_target_iff, Bool.not_eq_true', ← Bool.not_eq_true, hnew]
    simp
  induction cs generalizing n k with
  | nil => simp at hk
  | cons x cs ih =>
    rw [ninthBlock, hany]
    cases k with
    | zero =>
      obtain rfl : x = c := by simpa using hk
      rw [hc, if_neg (by decide), if_pos (by simp at hn; simp [Config.tableColumns]; omega)]
    | succ k =>
      rw [List.getElem?_cons_succ] at hk
      rw [List.take_succ_cons, List.countP_cons] at hn
      by_cases hx : new x.column = true
      · rw [if_pos hx] at hn
        rw [hx, if_neg (by decide), if_neg (by simp [Config.tableColumns]; omega)]
        exact ih hk (by omega)
      · rw [if_neg hx] at hn
        rw [Bool.not_eq_true] at hx
        rw [hx, if_pos (by decide)]
        exact ih hk (by omega)

/-- The block of a staged temperature source, and 0 for any other staged watch. -/
def sourceBlock : Option StagedWatch → Nat
  | some x => if x.watch.tempSource then x.block else 0
  | none => 0

theorem lastSourceBlock_eq (st : Staging) : lastSourceBlock st = st.watches.toList.foldl (fun n w => max n (sourceBlock w)) 0 := by
  unfold lastSourceBlock
  congr 1
  funext n w
  cases w with
  | none => simp [sourceBlock]
  | some x => cases hx : x.watch.tempSource <;> simp [sourceBlock, hx]

theorem foldl_max_eq {α : Type} {f : α → Nat} {m : Nat} {xs : List α} {n : Nat} (hn : n ≤ m) (hle : ∀ x ∈ xs, f x ≤ m)
    (hex : n = m ∨ ∃ x ∈ xs, f x = m) : xs.foldl (fun n x => max n (f x)) n = m := by
  induction xs generalizing n with
  | nil => simpa using hex
  | cons x xs ih =>
    have hx := hle x List.mem_cons_self
    rw [List.foldl_cons]
    refine ih (by omega) (fun y hy => hle y (List.mem_cons_of_mem _ hy)) ?_
    rcases hex with rfl | ⟨y, hy, hym⟩
    · exact .inl (by omega)
    · rcases List.mem_cons.1 hy with rfl | hy
      · exact .inl (by omega)
      · exact .inr ⟨y, hy, hym⟩

/-- The block of the last staged temperature source. -/
theorem lastSourceBlock_of {st : Staging} {i : Fin 8} {w : StagedWatch} (hi : st.watches[i] = some w)
    (hw : w.watch.tempSource = true) (hmax : ∀ (j : Fin 8) (x : StagedWatch), st.watches[j] = some x →
      x.watch.tempSource = true → x.block ≤ w.block) : lastSourceBlock st = w.block := by
  rw [lastSourceBlock_eq]
  refine foldl_max_eq (Nat.zero_le _) (fun x hx => ?_) (.inr ⟨some w, ?_, by simp [sourceBlock, hw]⟩)
  · obtain ⟨j, hj, hjx⟩ := List.getElem_of_mem hx
    cases x with
    | none => exact Nat.zero_le _
    | some x =>
      cases ht : x.watch.tempSource with
      | false => simp [sourceBlock, ht]
      | true =>
        simp only [sourceBlock, ht, if_true]
        exact hmax ⟨j, by simpa using hj⟩ x (by simpa using hjx) ht
  · rw [← hi]
    exact Vector.mem_toList_iff.2 (Vector.getElem_mem _)

theorem hasWatch_of {st : Staging} {i : Fin 8} {w : StagedWatch} (hi : st.watches[i] = some w) : st.hasWatch = true := by
  by_contra h
  rw [Bool.not_eq_true] at h
  rw [Staging.hasWatch_eq_false h] at hi
  cases hi

/-! ### A commit as a happening at its lane -/

/-- A load that fails its commit completes with its error and position, and nothing else changes. -/
theorem applyOut_commit_error {s : State} {d : ActiveLoad} {o : Option Tx} {st : Staging} {err : ChainErr}
    {position : Nat} (h : commitCheck d.mode s.lanes[d.lane] st = .error (err, position)) :
    s.applyOut d.lane (s.lanes[d.lane].commitOut o d st) = s.finish
      { id := d.id, status := .chainError, detail := some (.chain err),
        result := some (resultWord d.blocksRead position 0 0) } := by
  unfold Lane.commitOut
  rw [h]
  simp only [State.applyOut, Lane.out, completionOrder_single, State.setLane_self, State.raiseAll_nil,
    State.finishAll_cons, State.finishAll_nil, loadFailResult]

/-- A load that passes its commit is applied, and the SYNC waiters complete with it when that leaves the lane in
sync. -/
theorem applyOut_commit_ok {s : State} {d : ActiveLoad} {o : Option Tx} {st : Staging} {M : Lane}
    (h : commitCheck d.mode s.lanes[d.lane] st = .ok ()) (hM : s.lanes[d.lane].commit o d.mode st = M) :
    s.applyOut d.lane (s.lanes[d.lane].commitOut o d st) =
      (s.setLane d.lane { M with waiters := if M.inSync then [] else M.waiters }).finishAll
        (completionOrder s.table
          [{ id := d.id, status := .ok, detail := none,
             result := some (loadOkResult d.blocksRead (baseChanged d.mode s.lanes[d.lane] st) M.table.length
               (watchesSet st) M.image.queue.length) }]
          (if M.inSync then M.waiterCompletions .ok else [])) := by
  unfold Lane.commitOut
  rw [h, hM]
  unfold LaneOut.settleSync State.applyOut
  simp only [Lane.out]
  by_cases hs : M.inSync = true
  · simp only [hs, if_true, State.raiseAll_nil, List.nil_append]
  · rw [Bool.not_eq_true] at hs
    simp only [hs, Bool.false_eq_true, if_false, State.raiseAll_nil]

/-- Settles O51: the two checks in their order, the lane that a commit leaves, and the next load. -/
theorem commitAppliesTheChain : Obligations.CommitAppliesTheChain := by
  unfold Obligations.CommitAppliesTheChain
  intro s d l L M st table act merge base cal stale after' hact hstage hd hl hL hst htable hmerge hbase h0 hout hb hcal
    hstale hM hafter
  have hx : exec .chainCommit s = .next (after' (s.applyOut d.lane
      (s.lanes[d.lane].commitOut (s.inFlight d.lane) d s.loader.staging))) := by
    change execChainCommit s = _
    rw [execChainCommit, hact, hafter]
    exact if_pos ⟨hstage, hd⟩
  subst hl hL hst
  have hmerge' : merge = mergeColumn := by
    funext t c
    rw [hmerge, mergeColumn_eq]
  have htable' : tableAfter d.mode s.lanes[d.lane].table s.loader.staging = table := by
    rw [tableAfter_eq, htable, hmerge']
  have hbase' : baseAfter d.mode s.loader.staging = base := by
    funext a e
    have haction := actionAt_eq hbase h0 hout a
    obtain ⟨hno, hyes⟩ := baseAfter_eq d.mode s.loader.staging a e
    rw [hb]
    by_cases hnone : ∀ y ∈ addresses, act y = none
    · rw [if_pos hnone, hno ((hasBase_eq_false_iff hbase).2 hnone)]
    · rw [if_neg hnone]
      rw [← hasBase_eq_false_iff hbase, Bool.not_eq_false] at hnone
      obtain ⟨hset, hclear, hkeep⟩ := hyes hnone
      rw [haction] at hset hclear hkeep
      cases hc : act a with
      | none => exact hkeep hc
      | some x =>
        cases x with
        | set v => exact hset v hc
        | clear => exact hclear hc
  have hcal' : calAfter d.mode s.lanes[d.lane] s.loader.staging = cal := by
    funext a e
    rw [hcal, calAfter, htable']
    simp only [List.isEmpty_iff]
  have hM' : s.lanes[d.lane].commit (s.inFlight d.lane) d.mode s.loader.staging = M := by
    have hs : (s.lanes[d.lane].stalePoll || commitStales s.lanes[d.lane] (s.inFlight d.lane) s.loader.staging) =
        stale := by
      rw [Bool.eq_iff_iff, hstale, Bool.or_eq_true, commitStales_iff]
    rw [hM, Lane.commit, htable', hbase', hcal', hs]
    rfl
  obtain ⟨hMtable, hMwatches, -⟩ := commit_contents s.lanes[d.lane] (s.inFlight d.lane) d.mode s.loader.staging
  rw [hM'] at hMtable hMwatches
  rw [htable'] at hMtable
  have hsources : sourceCount (watchesAfter s.lanes[d.lane].watches s.loader.staging) =
      M.watches.toList.countP (·.tempSource) := by
    rw [hMwatches, sourceCount, List.countP_eq_length_filter]
  have hcheck : commitCheck d.mode s.lanes[d.lane] s.loader.staging =
      if d.mode = .merge ∧ 8 < table.length then
        .error (.tableFull, ninthBlock s.lanes[d.lane].table s.lanes[d.lane].table.length s.loader.staging.columns)
      else if s.loader.staging.hasWatch = true ∧ 1 < M.watches.toList.countP (·.tempSource) then
        .error (.badEntry, lastSourceBlock s.loader.staging)
      else .ok () := by
    rw [commitCheck, htable', hsources]
    rfl
  rw [hx]
  refine ⟨fun hfull k c new hnew hk hc hn => ?_, fun hfits htwo i w hi hw hmax => ?_, fun hfits hone => ?_,
    fun u => ⟨fun hq => ?_, fun q qs hq => ?_⟩⟩
  · rw [if_pos hfull, ninthBlock_eq hnew hc hk hn] at hcheck
    rw [applyOut_commit_error hcheck]
  · rw [if_neg hfits, if_pos ⟨hasWatch_of hi, htwo⟩, lastSourceBlock_of hi hw hmax] at hcheck
    rw [applyOut_commit_error hcheck]
  · have hno : ¬ (s.loader.staging.hasWatch = true ∧ 1 < M.watches.toList.countP (·.tempSource)) := by
      rintro ⟨hw, htwo⟩
      rcases hone with hnone | hone
      · simp only [Staging.hasWatch, List.any_eq_true, Vector.mem_toList_iff] at hw
        obtain ⟨x, hx, hsome⟩ := hw
        obtain ⟨i, hi, rfl⟩ := Vector.getElem_of_mem hx
        rw [show s.loader.staging.watches[i] = none from hnone ⟨i, hi⟩] at hsome
        cases hsome
      · omega
    rw [if_neg hfits, if_neg hno] at hcheck
    rw [applyOut_commit_ok hcheck hM', loadOkResult, baseChanged, watchesSet, hbase', hMtable,
      List.countP_eq_length_filter, List.countP_eq_length_filter]
  · rw [State.nextLoad, hq]
  · rw [State.nextLoad, hq]
    rfl

end Sys2Proof.Machine
end

section
/-! Ports, grants and ticks (spec/03 to spec/05). -/

namespace Sys2Proof.Machine

/-! ### A lane's next transaction -/

theorem orElse_eq {α : Type} (a b : Option α) : (a <|> b) = if a.isSome then a else b := by cases a <;> rfl

theorem Lane.ackChoice_orElse (L : Lane) (x : Option Choice) :
    (L.ackChoice <|> x) = if L.ackDue then some .ack else x := by
  unfold Lane.ackChoice; cases L.ackDue <;> rfl

theorem Lane.checkChoice_orElse (L : Lane) (x : Option Choice) :
    (L.checkChoice <|> x) = if L.checkDue then some .check else x := by
  unfold Lane.checkChoice; cases L.checkDue <;> rfl

theorem abovePosition_iff (p : Option (Fin 8)) (i : Fin 8) : abovePosition p i = true ↔ ∀ j ∈ p, j < i := by
  cases p <;> simp [abovePosition]

/-- The round's next POLL in the words of R94. -/
theorem Lane.nextPoll_polling {L : Lane} {p : Option (Fin 8)} (h : L.round = some (.polling p)) :
    L.nextPoll = watchIndices.find? fun i => decide ((∀ j ∈ p, j < i) ∧ L.watches[i].state = .active) := by
  unfold Lane.nextPoll
  rw [h]
  refine congrArg (fun f => watchIndices.find? f) (funext fun i => ?_)
  rw [Bool.eq_iff_iff, Bool.and_eq_true, abovePosition_iff, decide_eq_true_iff, decide_eq_true_iff]

/-- Settles O53: the order of choice, with and without a retry due. -/
theorem nextTransactionInOrder : Obligations.NextTransactionInOrder := by
  unfold Obligations.NextTransactionInOrder
  intro L verify direct poll wb hverify hdirect hpoll hwb
  have hv : L.verifyChoice = verify := hverify.symm
  have hd : L.directChoice = direct := hdirect.symm
  have hw : L.wbChoice = wb := hwb.symm
  have hp : L.pollChoice = poll := by
    rw [hpoll, Lane.pollChoice]
    rcases hr : L.round with _ | _ | p
    · simp [Lane.nextPoll, hr]
    · simp [Lane.nextPoll, hr]
    · rw [Lane.nextPoll_polling hr]
      rfl
  refine ⟨fun tx hr => ?_, fun hr => ?_⟩
  · have hretry : L.retryChoice = some (.retry tx) := by rw [Lane.retryChoice, hr]; rfl
    unfold Lane.choice
    rw [hretry]
    cases L.state <;> rfl
  · have hretry : L.retryChoice = none := by rw [Lane.retryChoice, hr]; rfl
    unfold Lane.choice
    rw [hretry, hv, hd, hw, hp]
    cases L.state with
    | active =>
      calc (none <|> verify <|> L.ackChoice <|> L.checkChoice <|> direct <|> poll <|> wb)
          = (verify <|> L.ackChoice <|> L.checkChoice <|> direct <|> poll <|> wb) := rfl
        _ = _ := by rw [L.checkChoice_orElse, L.ackChoice_orElse, orElse_eq poll, orElse_eq direct, orElse_eq verify]
    | probing =>
      calc (none <|> L.ackChoice <|> L.checkChoice) = (L.ackChoice <|> L.checkChoice) := rfl
        _ = _ := L.ackChoice_orElse _
    | quiesced => exact orElse_eq none direct
    | faulted => exact orElse_eq none direct
    | _ => rfl

/-! ### Grants -/

theorem findSome_eq_bind {α β : Type} (f : α → Option β) (xs : List α) :
    xs.findSome? f = (xs.find? fun j => (f j).isSome).bind f := by
  induction xs with
  | nil => rfl
  | cons x xs ih =>
    cases hx : f x with
    | none => simp [hx, ih]
    | some y => simp [hx]

/-- The first answer in round-robin order. -/
theorem findSome_after {α : Type} {f : Fin 4 → Option α} {p q : Fin 4} {x : α} (hq : f q = some x)
    (hfirst : ∀ j, (j - p - 1).val < (q - p - 1).val → f j = none) : (after p).findSome? f = some x := by
  have hfind : (after p).find? (fun j => (f j).isSome) = some q :=
    find_after (by rw [hq]; rfl) fun j hj => by rw [hfirst j hj]; rfl
  rw [findSome_eq_bind, hfind, Option.bind_some, hq]

/-- What the lane bound at a select offers. -/
theorem State.offer_of_lane {s : State} (hdist : s.BindingsDistinct) {p sel : Fin 4} {l : Fin 16}
    (ha : s.lanes[l].state ≠ .detached) (hb : s.lanes[l].binding = some { port := p, select := sel }) :
    s.offer p sel = s.lanes[l].choice.map fun c => (sel, l, c) := by
  have hatt (m : Fin 16) : s.lanes[m].attached = true ↔ s.lanes[m].state ≠ .detached := by simp [Lane.attached]
  obtain ⟨m, hm⟩ := Option.isSome_iff_exists.1 (State.laneAt_isSome.2 ⟨l, ha, hb⟩)
  obtain ⟨hma, hmb⟩ := State.laneAt_some hm
  obtain rfl : m = l := hdist m l hma ((hatt l).2 ha) (hmb.trans hb.symm)
  rw [State.offer, hm]

/-- A select where no lane with a next transaction is bound offers nothing. -/
theorem State.offer_none {s : State} {p sel : Fin 4} (h : ∀ m : Fin 16, s.lanes[m].state ≠ .detached →
    s.lanes[m].binding = some { port := p, select := sel } → s.lanes[m].choice = none) : s.offer p sel = none := by
  unfold State.offer
  cases hm : s.laneAt { port := p, select := sel } with
  | none => rfl
  | some m =>
    obtain ⟨hma, hmb⟩ := State.laneAt_some hm
    simp only [h m (by simpa [Lane.attached] using hma) hmb, Option.map_none]

/-- Settles O54: the first offering select past the pointer is granted its lane's transaction. -/
theorem portGrantsInTurn : Obligations.PortGrantsInTurn := by
  unfold Obligations.PortGrantsInTurn
  intro s p sel
  have hx : exec (.portGrant p) s = execPortGrant p s := rfl
  rw [hx]
  unfold execPortGrant
  refine ⟨fun h => ?_, fun he hf hdist => ⟨fun hnone => ?_, fun l L M c hL ha hb hc hfirst hgo hover => ?_⟩⟩
  · refine if_neg ?_
    rintro ⟨he, hf⟩
    rcases h with h | h
    · rw [h] at he; cases he
    · exact h hf
  · have harb : s.arbitrate p = none := List.findSome?_eq_none_iff.2 fun j _ =>
      State.offer_none fun m hm hmb => hnone m hm (by rw [hmb]; rfl)
    rw [if_pos ⟨he, hf⟩, harb]
  · subst hL
    have harb : s.arbitrate p = some (sel, l, c) := by
      refine findSome_after ?_ fun j hj => State.offer_none fun m hm hmb => hfirst m _ hm hmb rfl hj
      rw [State.offer_of_lane hdist ha hb, hc]
      rfl
    have hM : s.lanes[l].settleRound none = M := by
      obtain ⟨h1, h2⟩ := s.lanes[l].settleRound_spec none
      by_cases hg : s.lanes[l].RoundGoesOn none
      · rw [h1 hg, hgo hg]
      · rw [h2 hg, hover hg]
    rw [if_pos ⟨he, hf⟩, harb]
    simp only [State.grant, hM]
    cases c <;> rfl

/-! ### Ticks -/

theorem Lane.pollTimed_iff (L : Lane) : L.pollTimed = true ↔ L.state ≠ .detached ∧ L.options.pollPeriod ≠ 0 := by
  simp [Lane.pollTimed]

/-- Settles O60: the tick by the lane's state, and the waiter that a time limit ends. -/
theorem ticksAtALane : Obligations.TicksAtALane := by
  unfold Obligations.TicksAtALane
  intro s l L hL
  have htick : exec (.pollTick l) s = execPollTick l s := rfl
  have htime (ring : Fin 4) (tag : Tag) : exec (.syncTimeout l ring tag) s = execSyncTimeout l ring tag s := rfl
  simp only [htick, htime]
  unfold execPollTick execSyncTimeout
  refine ⟨fun hd => ⟨if_neg fun h => h.1 hd, fun ring tag => if_pos hd⟩, fun hd => ⟨fun h => ?_, fun h1 h2 => ?_,
    fun ring tag id hid => ⟨?_, fun hnone => ?_⟩⟩⟩
  · rw [if_neg]
    rw [Lane.pollTimed_iff, ← hL]
    tauto
  · rw [if_pos ⟨hd, by rw [Lane.pollTimed_iff, ← hL]; exact ⟨h1, h2⟩⟩, ← hL]
    exact ⟨_, L.pollTick_spec (s.inFlight l), rfl⟩
  · rintro ⟨w, hw, hwid, hlimit⟩
    have hany : (L.waiters.any fun w => decide (w.id = id) && w.remaining.isSome) = true := by
      simp only [List.any_eq_true, Bool.and_eq_true, decide_eq_true_eq, Option.isSome_iff_ne_none]
      exact ⟨w, hw, hwid, hlimit⟩
    rw [if_neg hd, ← hid, State.timeOut]
    simp only [← hL]
    rw [if_pos hany]
    rfl
  · have hany : ¬ (L.waiters.any fun w => decide (w.id = id) && w.remaining.isSome) = true := by
      simp only [List.any_eq_true, Bool.and_eq_true, decide_eq_true_eq, Option.isSome_iff_ne_none]
      rintro ⟨w, hw, hwid, hlimit⟩
      exact hlimit (hnone w hw hwid)
    rw [if_neg hd, ← hid, State.timeOut]
    simp only [← hL]
    rw [if_neg hany]

end Sys2Proof.Machine
end

section
/-! What finishing several commands leaves (R146, R148), and one millisecond of the Timebase. -/

namespace Sys2Proof.Machine

/-! ### Finishing in turn -/

theorem OctEntry.finish_of {c : Completion} {e : OctEntry} (hid : e.id = c.id) (hopen : e.finished = false) :
    e.finish c = { e with stage := .finished c.status c.detail c.result } := if_pos ⟨hid, hopen⟩

theorem OctEntry.finish_of_finished {c : Completion} {e : OctEntry} (h : e.finished = true) : e.finish c = e := by
  simp [OctEntry.finish, h]

theorem OctEntry.foldl_finish_of_not_mem {cs : List Completion} {e : OctEntry} (h : e.id ∉ cs.map (·.id)) :
    cs.foldl (fun e c => e.finish c) e = e := by
  induction cs generalizing e with
  | nil => rfl
  | cons c cs ih =>
    rw [List.map_cons, List.mem_cons, not_or] at h
    rw [List.foldl_cons, OctEntry.finish_of_ne h.1, ih h.2]

theorem OctEntry.foldl_finish_of_finished {cs : List Completion} {e : OctEntry} (h : e.finished = true) :
    cs.foldl (fun e c => e.finish c) e = e := by
  induction cs generalizing e with
  | nil => rfl
  | cons c cs ih => rw [List.foldl_cons, OctEntry.finish_of_finished h, ih h]

/-- An open entry takes the completion of its command. -/
theorem OctEntry.foldl_finish_of_mem {cs : List Completion} {c : Completion} {e : OctEntry} (hn : (cs.map (·.id)).Nodup)
    (hc : c ∈ cs) (hid : e.id = c.id) (hopen : e.finished = false) :
    cs.foldl (fun e c => e.finish c) e = { e with stage := .finished c.status c.detail c.result } := by
  induction cs with
  | nil => simp at hc
  | cons d ds ih =>
    obtain ⟨hd, hn⟩ := List.nodup_cons.1 (List.map_cons ▸ hn)
    rw [List.foldl_cons]
    rcases List.mem_cons.1 hc with rfl | hmem
    · rw [OctEntry.finish_of hid hopen]
      exact OctEntry.foldl_finish_of_finished rfl
    · have hne : e.id ≠ d.id := fun h => hd (List.mem_map.2 ⟨c, hmem, by rw [← hid, h]⟩)
      rw [OctEntry.finish_of_ne hne]
      exact ih hn hmem

theorem State.finish_table (s : State) (c : Completion) : (s.finish c).table = s.table.map (OctEntry.finish c) := by
  rcases s.finish_cases c with ⟨-, h⟩ | ⟨hno, h⟩ <;> rw [h]
  conv_lhs => rw [← List.map_id s.table]
  refine List.map_congr_left fun e he => ?_
  by_cases hid : e.id = c.id
  · exact (OctEntry.finish_of_finished (hno e he hid)).symm
  · exact (OctEntry.finish_of_ne hid).symm

/-- Each entry of the table takes the completions in turn. -/
theorem State.finishAll_table (s : State) (cs : List Completion) :
    (s.finishAll cs).table = s.table.map fun e => cs.foldl (fun e c => e.finish c) e := by
  induction cs generalizing s with
  | nil => simp
  | cons c cs ih => rw [State.finishAll_cons, ih, State.finish_table, List.map_map]; rfl

/-- Commands that are open and distinct join the finish list in their order. -/
theorem State.finishAll_list {s : State} {cs : List Completion} (hn : (cs.map (·.id)).Nodup)
    (hopen : ∀ i ∈ cs.map (·.id), ∃ e ∈ s.table, e.id = i ∧ e.finished = false) :
    (s.finishAll cs).finishList = s.finishList ++ (cs.map (·.id)).map .entry := by
  induction cs generalizing s with
  | nil => simp
  | cons c cs ih =>
    obtain ⟨hc, hn⟩ := List.nodup_cons.1 (List.map_cons ▸ hn)
    have hfirst : (s.finish c).finishList = s.finishList ++ [.entry c.id] := by
      rcases s.finish_cases c with ⟨-, h⟩ | ⟨hno, -⟩
      · rw [h]
      · obtain ⟨e, he, hid, hf⟩ := hopen c.id (by simp)
        rw [hno e he hid] at hf
        cases hf
    rw [State.finishAll_cons, ih hn, hfirst]
    · simp
    · intro i hi
      obtain ⟨e, he, hid, hf⟩ := hopen i (by rw [List.map_cons]; exact List.mem_cons_of_mem _ hi)
      have hne : e.id ≠ c.id := fun h => hc (by rwa [← h, hid])
      refine ⟨e, ?_, hid, hf⟩
      rw [State.finish_table]
      exact List.mem_map.2 ⟨e, he, OctEntry.finish_of_ne hne⟩

/-- Finishing leaves the rest of the part. -/
theorem State.finishAll_rest (s : State) (cs : List Completion) :
    s.finishAll cs = { s with table := (s.finishAll cs).table, finishList := (s.finishAll cs).finishList } := by
  induction cs generalizing s with
  | nil => rfl
  | cons c cs ih =>
    rw [State.finishAll_cons, ih]
    rcases s.finish_cases c with ⟨-, h⟩ | ⟨-, h⟩ <;> rw [h]

/-! ### One millisecond at one lane -/

/-- The lane after one millisecond. -/
def State.laneTicked (s : State) (l : Fin 16) : Lane := (Lane.countWaiters (s.lanes[l].countPoll (s.inFlight l))).lane

/-- The waiters that one millisecond times out at a lane. -/
def State.timedOut (s : State) (l : Fin 16) : List Completion :=
  (Lane.countWaiters (s.lanes[l].countPoll (s.inFlight l))).waiters

theorem State.tickLane_eq (s : State) (l : Fin 16) :
    s.tickLane l = (s.setLane l (s.laneTicked l)).finishAll (s.timedOut l) := rfl

/-- A state that has lane `l` and its frame as `s` has them. -/
def State.LaneAs (s u : State) (l : Fin 16) : Prop := u.lanes[l] = s.lanes[l] ∧ u.inFlight l = s.inFlight l

theorem State.LaneAs.setLane {s u : State} {l m : Fin 16} (h : s.LaneAs u m) (hne : m ≠ l) (L : Lane) (cs : List Completion) :
    s.LaneAs ((u.setLane l L).finishAll cs) m := by
  have hlane : ((u.setLane l L).finishAll cs).lanes[m] = u.lanes[m] := by
    rw [State.finishAll_lanes, State.setLane_get_ne _ _ hne]
  refine ⟨hlane.trans h.1, ?_⟩
  rw [← h.2]
  unfold State.inFlight
  rw [hlane, State.finishAll_ports, State.setLane_ports]

theorem foldl_setLane_finishAll (f : Fin 16 → Lane) (ls : List (Fin 16)) (u : State) (cs : List Completion) :
    ls.foldl (fun v m => v.setLane m (f m)) (u.finishAll cs) =
      (ls.foldl (fun v m => v.setLane m (f m)) u).finishAll cs := by
  induction ls generalizing u with
  | nil => rfl
  | cons m ls ih => rw [List.foldl_cons, List.foldl_cons, ← State.finishAll_setLane, ih]

/-- The tick at each lane of a list is that of its own contents before the tick. -/
theorem foldl_tickLane {s : State} {ls : List (Fin 16)} (hn : ls.Nodup) (u : State) (h : ∀ l ∈ ls, s.LaneAs u l) :
    ls.foldl State.tickLane u =
      (ls.foldl (fun v l => v.setLane l (s.laneTicked l)) u).finishAll (ls.flatMap s.timedOut) := by
  induction ls generalizing u with
  | nil => rfl
  | cons l ls ih =>
    obtain ⟨hl, hn⟩ := List.nodup_cons.1 hn
    obtain ⟨hlane, hflight⟩ := h l List.mem_cons_self
    have hticked : u.laneTicked l = s.laneTicked l := by rw [State.laneTicked, hlane, hflight]; rfl
    have htimed : u.timedOut l = s.timedOut l := by rw [State.timedOut, hlane, hflight]; rfl
    rw [List.foldl_cons, List.foldl_cons, List.flatMap_cons, State.tickLane_eq, hticked, htimed,
      ih hn _ fun m hm => (h m (List.mem_cons_of_mem _ hm)).setLane (fun e => hl (by rwa [e] at hm)) _ _,
      foldl_setLane_finishAll, State.finishAll_append]

theorem foldl_setLane_get (f : Fin 16 → Lane) {ls : List (Fin 16)} (hn : ls.Nodup) (u : State) (l : Fin 16) :
    (ls.foldl (fun v m => v.setLane m (f m)) u).lanes[l] = if l ∈ ls then f l else u.lanes[l] := by
  induction ls generalizing u with
  | nil => simp
  | cons m ls ih =>
    obtain ⟨hm, hn⟩ := List.nodup_cons.1 hn
    rw [List.foldl_cons, ih hn]
    by_cases hl : l ∈ ls
    · rw [if_pos hl, if_pos (List.mem_cons_of_mem _ hl)]
    · by_cases he : l = m
      · subst he
        rw [if_neg hl, if_pos List.mem_cons_self, State.setLane_get_self]
      · rw [if_neg hl, if_neg (by simp [he, hl]), State.setLane_get_ne _ _ he]

/-- Setting lanes leaves the rest of the part. -/
theorem foldl_setLane_rest (f : Fin 16 → Lane) (ls : List (Fin 16)) (u : State) :
    ls.foldl (fun v m => v.setLane m (f m)) u =
      { u with lanes := (ls.foldl (fun v m => v.setLane m (f m)) u).lanes } := by
  induction ls generalizing u with
  | nil => rfl
  | cons m ls ih => rw [List.foldl_cons, ih]; rfl

/-! ### The poll timer and the waiters of one lane -/

/-- A tick leaves the lane's waiters, state and image. -/
theorem Lane.Ticked.keeps {L M : Lane} {o : Option Tx} (h : L.Ticked M o) :
    M.waiters = L.waiters ∧ M.state = L.state ∧ M.image = L.image := by
  obtain ⟨hother, hbegins, hskips⟩ := h
  by_cases ha : L.state = .active
  · by_cases hg : L.RoundGoesOn o
    · rw [hskips ha hg]; exact ⟨rfl, rfl, rfl⟩
    · rw [hbegins ha hg]; exact ⟨rfl, rfl, rfl⟩
  · rw [hother ha]; exact ⟨rfl, rfl, rfl⟩

/-- One millisecond at the poll timer (R92, R93). -/
theorem Lane.countPoll_spec (L : Lane) (o : Option Tx) :
    (L.state = .detached ∨ L.options.pollPeriod = 0 → L.countPoll o = L) ∧
    (L.state ≠ .detached → L.pollTimer + 1 < L.options.pollPeriod →
      L.countPoll o = { L with pollTimer := L.pollTimer + 1 }) ∧
    (L.state ≠ .detached → L.options.pollPeriod ≠ 0 → L.options.pollPeriod ≤ L.pollTimer + 1 →
      L.Ticked (L.countPoll o) o) := by
  unfold Lane.countPoll
  refine ⟨fun h => if_neg ?_, fun hd ht => ?_, fun hd hp ht => ?_⟩
  · rw [Lane.pollTimed_iff]
    tauto
  · rw [if_pos (L.pollTimed_iff.2 ⟨hd, by omega⟩), if_neg (by omega)]
  · rw [if_pos (L.pollTimed_iff.2 ⟨hd, hp⟩), if_pos ht]
    exact L.pollTick_spec o

theorem Lane.countPoll_keeps (L : Lane) (o : Option Tx) :
    (L.countPoll o).waiters = L.waiters ∧ (L.countPoll o).state = L.state ∧ (L.countPoll o).image = L.image := by
  obtain ⟨hstays, hcounts, hticks⟩ := L.countPoll_spec o
  by_cases h : L.state = .detached ∨ L.options.pollPeriod = 0
  · rw [hstays h]; exact ⟨rfl, rfl, rfl⟩
  · obtain ⟨hd, hp⟩ := not_or.1 h
    by_cases ht : L.pollTimer + 1 < L.options.pollPeriod
    · rw [hcounts hd ht]; exact ⟨rfl, rfl, rfl⟩
    · exact (hticks hd hp (by omega)).keeps

theorem Waiter.expires_eq (w : Waiter) : w.expires = decide (w.remaining = some 0 ∨ w.remaining = some 1) := by
  unfold Waiter.expires
  cases w.remaining with
  | none => simp
  | some n =>
    simp only [Option.some.injEq]
    exact decide_eq_decide.2 (by omega)

theorem Waiter.stays_eq (w : Waiter) : (!w.expires) = decide (w.remaining ≠ some 0 ∧ w.remaining ≠ some 1) := by
  rw [Waiter.expires_eq, ← decide_not]
  exact decide_eq_decide.2 not_or

/-- The lane after one millisecond: its poll timer and its waiters. -/
theorem State.laneTicked_eq (s : State) (l : Fin 16) :
    s.laneTicked l = { s.lanes[l].countPoll (s.inFlight l) with
      waiters := (s.lanes[l].waiters.filter fun w => decide (w.remaining ≠ some 0 ∧ w.remaining ≠ some 1)).map
        fun w => { w with remaining := w.remaining.map (· - 1) } } := by
  obtain ⟨hw, -, -⟩ := s.lanes[l].countPoll_keeps (s.inFlight l)
  have hfun : (fun w : Waiter => !w.expires) = fun w => decide (w.remaining ≠ some 0 ∧ w.remaining ≠ some 1) :=
    funext Waiter.stays_eq
  unfold State.laneTicked Lane.countWaiters Lane.out
  rw [hw, hfun]
  rfl

/-- The waiters timed out, with the lane's state and queue length. -/
theorem State.timedOut_eq (s : State) (l : Fin 16) :
    s.timedOut l = (s.lanes[l].waiters.filter fun w => decide (w.remaining = some 0 ∨ w.remaining = some 1)).map
      fun w => { id := w.id, status := .timeout, detail := none,
                 result := some (resultWord (laneStateCode s.lanes[l].state) s.lanes[l].image.queue.length 0 0) } := by
  obtain ⟨hw, hs, hi⟩ := s.lanes[l].countPoll_keeps (s.inFlight l)
  have hfun : Waiter.expires = fun w => decide (w.remaining = some 0 ∨ w.remaining = some 1) :=
    funext Waiter.expires_eq
  unfold State.timedOut Lane.countWaiters syncResult
  simp only [hw, hs, hi, hfun]

/-- An expired waiter times out. -/
theorem State.timedOut_of {s : State} {l : Fin 16} {w : Waiter}
    (hw : w ∈ s.lanes[l].waiters.filter fun w => decide (w.remaining = some 0 ∨ w.remaining = some 1)) :
    ∃ c ∈ s.timedOut l, c.id = w.id ∧ c.status = .timeout ∧ c.detail = none ∧
      c.result = some (resultWord (laneStateCode s.lanes[l].state) s.lanes[l].image.queue.length 0 0) := by
  rw [State.timedOut_eq]
  exact ⟨_, List.mem_map.2 ⟨w, hw, rfl⟩, rfl, rfl, rfl, rfl⟩

theorem laneIndices_eq : laneIndices = List.finRange 16 := rfl

/-- Settles O2: the lanes tick independently, and the waiters timed out finish lane by lane. -/
theorem emptyQueueIsOneMillisecond : Obligations.EmptyQueueIsOneMillisecond := by
  unfold Obligations.EmptyQueueIsOneMillisecond
  intro s hp
  have hstep : step s = .next s.timebaseTick := by rw [step, hp]
  rw [hstep]
  by_cases hd : s.device = .resetting
  · have htick : s.timebaseTick = s := if_pos hd
    exact ⟨s, by rw [htick], rfl, fun _ => rfl, fun h => absurd hd h⟩
  obtain ⟨u, hu⟩ : ∃ u, u = laneIndices.foldl (fun v l => v.setLane l (s.laneTicked l)) s := ⟨_, rfl⟩
  have htick : s.timebaseTick = u.finishAll (laneIndices.flatMap s.timedOut) := by
    rw [State.timebaseTick, if_neg hd, foldl_tickLane (s := s) (by decide) s fun l _ => ⟨rfl, rfl⟩, hu]
  have hrest : u = { s with lanes := u.lanes } := by rw [hu]; exact foldl_setLane_rest _ _ _
  have htable : u.table = s.table := by rw [hrest]
  have hlist : u.finishList = s.finishList := by rw [hrest]
  have hlane (l : Fin 16) : u.lanes[l] = s.laneTicked l := by
    rw [hu, foldl_setLane_get _ (by decide), if_pos (mem_laneIndices l)]
  refine ⟨_, rfl, ?_, fun h => absurd h hd, fun _ => ⟨fun l L hL => ?_, fun expired all hexp hall hn hopen htn => ?_⟩⟩
  · rw [htick, State.finishAll_rest u, hrest]
  · rw [htick, State.finishAll_lanes, hlane, State.laneTicked_eq, hL]
    obtain ⟨hstays, hcounts, hticks⟩ := s.lanes[l].countPoll_spec (s.inFlight l)
    exact ⟨_, rfl, hstays, hcounts, hticks⟩
  · have hids : (laneIndices.flatMap s.timedOut).map (·.id) = all := by
      rw [hall, List.map_flatMap, laneIndices_eq]
      refine List.flatMap_congr fun l _ => ?_
      rw [State.timedOut_eq, hexp, List.map_map]
      rfl
    rw [htick]
    refine ⟨?_, ?_, fun k e hk => ⟨fun hnot => ?_, fun l hex => ?_⟩⟩
    · rw [State.finishAll_list (by rwa [hids]) (by rw [hids, htable]; exact hopen), hids, hlist]
    · rw [State.finishAll_table, List.length_map, htable]
    · rw [State.finishAll_table, List.getElem?_map, htable, hk, Option.map_some,
        OctEntry.foldl_finish_of_not_mem (by rwa [hids])]
    · obtain ⟨w, hw, hwid⟩ := hex
      obtain ⟨c, hc, hcid, hcstatus, hcdetail, hcresult⟩ := State.timedOut_of (hexp l ▸ hw)
      have hmem : c ∈ laneIndices.flatMap s.timedOut := List.mem_flatMap.2 ⟨l, mem_laneIndices l, hc⟩
      have hid : c.id = e.id := hcid.trans hwid
      have hall' : e.id ∈ all := by
        rw [← hids]
        exact List.mem_map.2 ⟨c, hmem, hid⟩
      obtain ⟨f, hf, hfid, hff⟩ := hopen e.id hall'
      have hef : f = e := List.inj_on_of_nodup_map htn hf (List.mem_of_getElem? hk) hfid
      rw [State.finishAll_table, List.getElem?_map, htable, hk, Option.map_some,
        OctEntry.foldl_finish_of_mem (by rwa [hids]) hmem hid.symm (hef ▸ hff), hcstatus, hcdetail, hcresult]

end Sys2Proof.Machine
end

section
/-! Acceptance, the lane barrier and the release (spec/08 8.4 and 8.5). -/

namespace Sys2Proof.Machine

/-! ### Acceptance -/

/-- An earlier entry that holds a command of a lane back (R144). -/
theorem OctEntry.holds_iff (e : OctEntry) (ring : Fin 4) (lane : Byte) : e.holds ring lane = true ↔
    e.id.ring = ring ∧ e.cmd ≠ .nop ∧ e.lane = lane ∧
      (e.stage = .waiting ∨ e.stage = .active ∧ e.cmd.barrier = true) := by
  unfold OctEntry.holds Cmd.namesLane
  cases e.stage <;> simp [and_assoc]

theorem heldBack_iff (earlier : List OctEntry) (ring : Fin 4) (lane : Byte) (cmd : Cmd) :
    heldBack earlier ring lane cmd = true ↔ cmd ≠ .nop ∧ ∃ e ∈ earlier, e.id.ring = ring ∧ e.cmd ≠ .nop ∧
      e.lane = lane ∧ (e.stage = .waiting ∨ e.stage = .active ∧ e.cmd.barrier = true) := by
  simp only [heldBack, Bool.and_eq_true, List.any_eq_true, OctEntry.holds_iff, Cmd.namesLane, decide_eq_true_eq]

/-- A kind that no OBSERVE ring may issue (R142). -/
theorem observe_eq_false {c : Cmd} (h1 : c ≠ .nop) (h2 : ∀ n, c ≠ .laneSync n) (h3 : ∀ a, c ≠ .readDirect a)
    (h4 : ∀ b, c ≠ .laneReport b) : c.observe = false := by
  cases c with
  | nop => exact absurd rfl h1
  | laneSync n => exact absurd rfl (h2 n)
  | readDirect a => exact absurd rfl (h3 a)
  | laneReport b => exact absurd rfl (h4 b)
  | _ => rfl

/-- The row of a NOP is its taking with lane byte 0. -/
theorem exec_row_nop {r : Request} (hn : r.cmd = .nop) (s : State) :
    exec r.row s = .next (s.takeRecord { r with lane := 0 }) := by
  obtain ⟨id, lane, cmd⟩ := r
  subst hn
  rfl

/-- Settles O24: checks 2 to 4 and the barrier, in their order. -/
theorem acceptanceAndBarrier : Obligations.AcceptanceAndBarrier := by
  unfold Obligations.AcceptanceAndBarrier
  intro r s hopen
  have htake (q : Request) (hq : q.id = r.id) : s.takeRecord q = s.accept q := if_pos (by rw [hq]; exact hopen)
  refine ⟨fun hr h1 h2 h3 h4 => ?_, fun hp hdup => ?_, fun u hp hfresh hn hu => ?_⟩
  · have hno : permits s.rings[r.id.ring].rights r.cmd = false := by rw [hr]; exact observe_eq_false h1 h2 h3 h4
    rw [exec_row r s h1, htake r rfl, State.accept, if_pos hno, refusalLane, if_pos (by simpa [Cmd.namesLane] using h1)]
    rfl
  · have hany (q : Request) (hq : q.id = r.id) : (s.table.any fun e => decide (e.id = q.id)) = true := by
      simpa [hq] using hdup
    by_cases hn : r.cmd = .nop
    · rw [exec_row_nop hn, htake { r with lane := 0 } rfl, State.accept, if_neg (by rw [hp]; decide), if_pos (hany _ rfl), refusalLane,
        if_neg (by simp [Cmd.namesLane, hn]), if_pos hn]
      rfl
    · rw [exec_row r s hn, htake r rfl, State.accept, if_neg (by rw [hp]; decide), if_pos (hany r rfl), refusalLane,
        if_pos (by simpa [Cmd.namesLane] using hn), if_neg hn]
      rfl
  · have hany : ¬ (s.table.any fun e => decide (e.id = r.id)) = true := by simpa using hfresh
    have henter : s.enter r = u := by
      unfold State.enter
      rcases hu with ⟨hlane, rfl⟩ | ⟨hlane, rfl, hheld⟩
      · rw [if_pos ⟨by simpa [Cmd.namesLane] using hn, hlane⟩]
        rfl
      · rw [if_neg (by omega), if_pos ((heldBack_iff _ _ _ _).2 ⟨hn, hheld⟩)]
        rfl
    rw [exec_row r s hn, htake r rfl, State.accept, if_neg (by rw [hp]; decide), if_neg hany, henter]

/-! ### Effects only finish entries -/

/-- The table of `t` is that of `s` after some completions. -/
def State.Finishes (s t : State) : Prop :=
  ∃ cs : List Completion, t.table = s.table.map fun e => cs.foldl (fun e c => e.finish c) e

theorem State.Finishes.of_table {s t : State} (h : t.table = s.table) : s.Finishes t := ⟨[], by simpa using h⟩

theorem State.Finishes.trans {s t u : State} (h : s.Finishes t) (k : t.Finishes u) : s.Finishes u := by
  obtain ⟨cs, hc⟩ := h
  obtain ⟨ds, hd⟩ := k
  exact ⟨cs ++ ds, by rw [hd, hc, List.map_map]; simp [Function.comp_def]⟩

theorem State.Finishes.finishAll (s : State) (cs : List Completion) : s.Finishes (s.finishAll cs) :=
  ⟨cs, s.finishAll_table cs⟩

theorem State.Finishes.finish (s : State) (c : Completion) : s.Finishes (s.finish c) :=
  ⟨[c], by rw [State.finish_table]; rfl⟩

theorem State.Finishes.applyOut (s : State) (l : Fin 16) (o : LaneOut) : s.Finishes (s.applyOut l o) :=
  (State.Finishes.of_table (by simp)).trans (State.Finishes.finishAll ((s.setLane l o.lane).raiseAll o.events) _)

theorem detachLoads_finishes (s : State) (l : Fin 16) : s.Finishes (s.detachLoads l) := by
  refine .of_table ?_
  unfold State.detachLoads
  split
  · split
    · split
      · rfl
      · simp [State.endLoad]
    · rfl
  · rfl

theorem runDetach_finishes (s : State) (id : CmdId) (l : Fin 16) : s.Finishes (s.runDetach id l) := by
  have hlane (L : Lane) : s.Finishes (State.setLane l L ((s.finishAll (s.detachAborts l)).detachLoads l)) :=
    ((State.Finishes.finishAll s _).trans (detachLoads_finishes _ l)).trans (.of_table rfl)
  unfold State.runDetach
  simp only
  split_ifs
  · exact .finish _ _
  · exact .finish _ _
  · exact (hlane _).trans (.finish _ _)
  · exact hlane _

theorem runLane_finishes (s : State) (id : CmdId) (l : Fin 16) (lane : Byte) (h : laneOfByte lane = some l) (cmd : Cmd) :
    s.Finishes (s.runCmd id lane cmd) := by
  unfold State.runCmd
  rw [h]
  cases cmd with
  | nop => exact .finish _ _
  | laneAttach p sel b =>
    simp only [State.runAttach]
    split
    · split_ifs
      exacts [.finish _ _, .finish _ _, .of_table rfl]
    · exact .finish _ _
  | laneDetach => exact runDetach_finishes s id l
  | laneSet b =>
    simp only [State.runLaneSet]
    split
    · exact .finish _ _
    · split_ifs
      exacts [.finish _ _, .applyOut _ _ _]
  | laneQuiesce =>
    simp only [State.runQuiesce]
    split
    exacts [.applyOut _ _ _, .finish _ _, .finish _ _, .finish _ _, .finish _ _, .finish _ _, .finish _ _]
  | laneResume =>
    simp only [State.runResume]
    split
    exacts [.of_table rfl, .of_table rfl, .finish _ _, .finish _ _, .finish _ _, .finish _ _, .finish _ _]
  | laneSync n =>
    simp only [State.runSync]
    split_ifs
    exacts [.finish _ _, .finish _ _, .finish _ _, .of_table rfl, .of_table rfl]
  | regSet a y v p =>
    simp only [State.runRegSet]
    split_ifs
    exacts [.finish _ _, .finish _ _, .applyOut _ _ _, .applyOut _ _ _]
  | readDirect a =>
    simp only [State.runReadDirect]
    split_ifs
    exacts [.finish _ _, .finish _ _, .of_table rfl]
  | writeDirect a v =>
    simp only [State.runWriteDirect]
    split_ifs
    exacts [.finish _ _, .of_table rfl, .finish _ _]
  | watchSet w =>
    simp only [State.runWatchSet]
    split
    · exact .finish _ _
    · split_ifs
      exacts [.finish _ _, .finish _ _, .applyOut _ _ _]
  | flagsClear w f =>
    simp only [State.runFlagsClear]
    split_ifs
    exacts [.finish _ _, .applyOut _ _ _]
  | calIndex i =>
    simp only [State.runCalIndex]
    split
    · exact .finish _ _
    · split_ifs
      exacts [.finish _ _, .applyOut _ _ _, .applyOut _ _ _]
  | calClear =>
    simp only [State.runCalClear]
    split_ifs
    exacts [.finish _ _, .finish _ _, .applyOut _ _ _]
  | chainLoad m f =>
    simp only [State.runChainLoad]
    split
    · exact .finish _ _
    · split_ifs
      exacts [.finish _ _, .finish _ _, .finish _ _, .of_table (by simp), .of_table rfl]
  | laneReport b =>
    simp only [State.runLaneReport]
    split_ifs
    exacts [.finish _ _, .of_table rfl]

/-- A command's effect finishes entries of the table and changes no other. -/
theorem runCmd_finishes (s : State) (id : CmdId) (lane : Byte) (cmd : Cmd) : s.Finishes (s.runCmd id lane cmd) := by
  cases h : laneOfByte lane with
  | none =>
    unfold State.runCmd
    simp only [h]
    split_ifs
    · exact .finish _ _
    · exact .finish _ _
  | some l => exact runLane_finishes s id l lane h cmd

/-! ### The release -/

/-- The entry waits for its activation. -/
def OctEntry.waits (e : OctEntry) : Bool := decide (e.stage = .waiting)

theorem OctEntry.foldl_finish_waits (cs : List Completion) (e : OctEntry) :
    (cs.foldl (fun e c => e.finish c) e).waits = true → e.waits = true := by
  induction cs generalizing e with
  | nil => exact fun h => h
  | cons c cs ih =>
    intro h
    rw [List.foldl_cons] at h
    have h' := ih _ h
    by_cases hc : e.id = c.id ∧ e.finished = false
    · rw [OctEntry.finish_of hc.1 hc.2] at h'
      simp [OctEntry.waits] at h'
    · have hsame : e.finish c = e := if_neg hc
      rwa [hsame] at h'

/-- Commands that wait do not grow in number by completions. -/
theorem State.Finishes.waits_le {s t : State} (h : s.Finishes t) :
    t.table.countP OctEntry.waits ≤ s.table.countP OctEntry.waits := by
  obtain ⟨cs, hc⟩ := h
  rw [hc, List.countP_map]
  exact List.countP_mono_left fun e _ he => OctEntry.foldl_finish_waits cs e he

/-- An activation takes its entry out of those that wait. -/
theorem setActive_waits_lt {s : State} {e : OctEntry} (he : e ∈ s.table) (hw : e.waits = true) :
    (s.setActive e.id).table.countP OctEntry.waits < s.table.countP OctEntry.waits := by
  have hle (f : OctEntry) (h : (if f.id = e.id then { f with stage := .active } else f : OctEntry).waits = true) :
      f.waits = true ∧ f.id ≠ e.id := by
    by_cases hid : f.id = e.id
    · rw [if_pos hid] at h
      simp [OctEntry.waits] at h
    · rw [if_neg hid] at h
      exact ⟨h, hid⟩
  obtain ⟨before, after, hsplit⟩ := List.append_of_mem he
  have hmono (xs : List OctEntry) : (xs.map fun f => if f.id = e.id then { f with stage := .active } else f).countP
      OctEntry.waits ≤ xs.countP OctEntry.waits := by
    rw [List.countP_map]
    exact List.countP_mono_left fun f _ hf => (hle f hf).1
  have hself : ({ e with stage := .active } : OctEntry).waits = false := rfl
  have h1 := hmono before
  have h2 := hmono after
  simp only [State.setActive, hsplit, List.map_append, List.map_cons, List.countP_append, List.countP_cons, if_true,
    hself, hw, Bool.false_eq_true, if_false]
  omega

/-- Nothing is releasable when every waiting entry is held back. -/
theorem firstReleasable_eq_none {earlier es : List OctEntry}
    (h : ∀ before after e, es = before ++ e :: after → e.stage = .waiting →
      heldBack (earlier ++ before) e.id.ring e.lane e.cmd = true) : firstReleasable earlier es = none := by
  induction es generalizing earlier with
  | nil => rfl
  | cons e es ih =>
    rw [firstReleasable, if_neg]
    · exact ih fun before after f hf hw => by
        simpa using h (e :: before) after f (by rw [hf]; rfl) hw
    · rintro ⟨hw, hno⟩
      have := h [] es e rfl hw
      rw [List.append_nil, hno] at this
      cases this

/-- The first releasable entry: it waits, nothing holds it back, and every earlier waiting entry is held back. -/
theorem firstReleasable_eq_some {earlier es : List OctEntry} {e : OctEntry} {before after : List OctEntry}
    (hes : es = before ++ e :: after) (hw : e.stage = .waiting)
    (hno : heldBack (earlier ++ before) e.id.ring e.lane e.cmd = false)
    (h : ∀ x y f, before = x ++ f :: y → f.stage = .waiting → heldBack (earlier ++ x) f.id.ring f.lane f.cmd = true) :
    firstReleasable earlier es = some e := by
  subst hes
  induction before generalizing earlier with
  | nil =>
    rw [List.nil_append, firstReleasable, if_pos ⟨hw, by simpa using hno⟩]
  | cons f fs ih =>
    rw [List.cons_append, firstReleasable, if_neg]
    · refine ih (by simpa using hno) fun x y g hg hgw => ?_
      simpa using h (f :: x) y g (by rw [hg]; rfl) hgw
    · rintro ⟨hfw, hfno⟩
      have := h [] fs f rfl hfw
      rw [List.append_nil, hfno] at this
      cases this

/-- With nothing releasable every waiting entry is held back. -/
theorem heldBack_of_none {earlier es : List OctEntry} (h : firstReleasable earlier es = none)
    {before after : List OctEntry} {e : OctEntry} (hes : es = before ++ e :: after) (hw : e.stage = .waiting) :
    heldBack (earlier ++ before) e.id.ring e.lane e.cmd = true := by
  subst hes
  induction before generalizing earlier with
  | nil =>
    rw [List.nil_append, firstReleasable] at h
    split_ifs at h with hc
    rw [List.append_nil]
    by_contra hno
    exact hc ⟨hw, by simpa using hno⟩
  | cons f fs ih =>
    rw [List.cons_append, firstReleasable] at h
    split_ifs at h
    simpa using ih h

/-- One activation of a release. -/
def State.activated (s : State) (e : OctEntry) : State := (s.setActive e.id).runCmd e.id e.lane e.cmd

theorem activated_waits_lt {s : State} {e : OctEntry} (h : firstReleasable [] s.table = some e) :
    (s.activated e).table.countP OctEntry.waits < s.table.countP OctEntry.waits := by
  obtain ⟨hmem, hw⟩ := firstReleasable_mem h
  exact (runCmd_finishes _ _ _ _).waits_le.trans_lt (setActive_waits_lt hmem (by simpa [OctEntry.waits] using hw))

theorem releaseN_none {s : State} (h : firstReleasable [] s.table = none) (n : Nat) : s.releaseN n = s := by
  cases n with
  | zero => rfl
  | succ n => rw [State.releaseN, h]

theorem releaseN_some {s : State} {e : OctEntry} (h : firstReleasable [] s.table = some e) (n : Nat) :
    s.releaseN (n + 1) = (s.activated e).releaseN n := by
  rw [State.releaseN, h]
  rfl

/-- Fuel for every waiting entry is enough. -/
theorem releaseN_enough (n m : Nat) {s : State} (hn : s.table.countP OctEntry.waits ≤ n)
    (hm : s.table.countP OctEntry.waits ≤ m) : s.releaseN n = s.releaseN m := by
  induction n generalizing m s with
  | zero =>
    cases h : firstReleasable [] s.table with
    | none => rw [releaseN_none h, releaseN_none h]
    | some e =>
      have := activated_waits_lt h
      omega
  | succ n ih =>
    cases h : firstReleasable [] s.table with
    | none => rw [releaseN_none h, releaseN_none h]
    | some e =>
      have hlt := activated_waits_lt h
      obtain ⟨k, rfl⟩ : ∃ k, m = k + 1 := ⟨m - 1, by omega⟩
      rw [releaseN_some h, releaseN_some h]
      exact ih k (by omega) (by omega)

theorem release_some {s : State} {e : OctEntry} (h : firstReleasable [] s.table = some e) :
    s.release = (s.activated e).release := by
  have hlt := activated_waits_lt h
  have hlen : s.table.countP OctEntry.waits ≤ s.table.length := List.countP_le_length
  obtain ⟨k, hk⟩ : ∃ k, s.table.length = k + 1 := ⟨s.table.length - 1, by omega⟩
  rw [State.release, hk, releaseN_some h, State.release]
  exact releaseN_enough k _ (by omega) List.countP_le_length

theorem releaseN_done (n : Nat) {s : State} (hn : s.table.countP OctEntry.waits ≤ n) :
    firstReleasable [] (s.releaseN n).table = none := by
  induction n generalizing s with
  | zero =>
    cases h : firstReleasable [] s.table with
    | none => rwa [releaseN_none h]
    | some e =>
      have := activated_waits_lt h
      omega
  | succ n ih =>
    cases h : firstReleasable [] s.table with
    | none => rwa [releaseN_none h]
    | some e =>
      have hlt := activated_waits_lt h
      rw [releaseN_some h]
      exact ih (by omega)

/-- Settles O25: the release's fixed point, its first activation, and that it ends with nothing releasable. -/
theorem releaseLeavesNoneReleasable : Obligations.ReleaseLeavesNoneReleasable := by
  unfold Obligations.ReleaseLeavesNoneReleasable
  intro s held hheld
  have hiff (before : List OctEntry) (e : OctEntry) :
      held before e ↔ heldBack before e.id.ring e.lane e.cmd = true := by rw [hheld, heldBack_iff]
  simp only [hiff]
  refine ⟨fun before after e he hw => ?_, fun h => ?_, fun before after e he hw hno hbefore => ?_⟩
  · exact heldBack_of_none (earlier := []) (releaseN_done _ List.countP_le_length) he hw
  · exact releaseN_none (firstReleasable_eq_none h) _
  · exact release_some (firstReleasable_eq_some he hw (by simpa using hno) hbefore)

end Sys2Proof.Machine
end

section
/-! The bytes of a record or block as they are read (spec/11), and the options and watches they give. -/

namespace Sys2Proof.Machine

/-! ### Little-endian fields -/

/-- A field of two parts as a number. -/
theorem append_toNat {m n : Nat} (x : BitVec m) (y : BitVec n) : (x ++ y).toNat = x.toNat * 2 ^ n + y.toNat := by
  rw [BitVec.toNat_append, ← Nat.shiftLeft_add_eq_or_of_lt y.isLt, Nat.shiftLeft_eq]

theorem le64_toNat (bs : List Byte) (n : Nat) : (le64 bs n).toNat = (le16 bs n).toNat +
    2 ^ 16 * (le16 bs (n + 2)).toNat + 2 ^ 32 * (le16 bs (n + 4)).toNat + 2 ^ 48 * (le16 bs (n + 6)).toNat := by
  rw [le64, append_toNat, append_toNat, append_toNat]
  omega

/-! ### Submission records -/

/-- A kind code that names no kind. -/
theorem readCmd_none {bs : List Byte} (h : (byteAt bs 0).toNat ∉ [0x00, 0x01, 0x02, 0x03, 0x04, 0x05, 0x06, 0x10, 0x11,
    0x12, 0x20, 0x21, 0x30, 0x31, 0x40, 0x41]) : readCmd bs = none := by
  simp only [List.mem_cons, List.not_mem_nil, or_false, not_or] at h
  unfold readCmd
  split
  case h_17 => rfl
  all_goals omega

/-! ### Option blocks -/

theorem byte_ne_ff {b : Byte} {top : Nat} (htop : top < 255) (h : b.toNat ≤ top) : b ≠ 0xFF#8 := by
  rintro rfl
  have : (0xFF#8).toNat = 255 := rfl
  omega

theorem optionByte_eq_some {α : Type} {raw : Byte} {keep x : α} {decode : Byte → Option α} :
    optionByte raw keep decode = some x ↔ raw = 0xFF#8 ∧ x = keep ∨ raw ≠ 0xFF#8 ∧ decode raw = some x := by
  unfold optionByte
  by_cases h : raw = 0xFF#8
  · simp [h, eq_comm]
  · simp [h]

/-- An option that is a number up to `top`. -/
theorem numberOption_iff {raw : Byte} {keep x top : Nat} (htop : top < 255) :
    optionByte raw keep (upTo top) = some x ↔ raw = 0xFF#8 ∧ x = keep ∨ raw.toNat ≤ top ∧ x = raw.toNat := by
  rw [optionByte_eq_some, upTo]
  by_cases h : raw.toNat ≤ top
  · simp [h, byte_ne_ff htop h, eq_comm]
  · simp [h]

/-- An option of two codes. -/
theorem codeOption_iff {α : Type} {raw : Byte} {keep x a b : α} {decode : Byte → Option α}
    (hd : ∀ r, decode r = if r = 0#8 then some a else if r = 1#8 then some b else none) :
    optionByte raw keep decode = some x ↔
      raw = 0xFF#8 ∧ x = keep ∨ raw = 0#8 ∧ x = a ∨ raw = 1#8 ∧ x = b := by
  rw [optionByte_eq_some, hd]
  by_cases h0 : raw = 0#8
  · subst h0
    simp [eq_comm]
  · by_cases h1 : raw = 1#8
    · subst h1
      simp [eq_comm]
    · simp [h0, h1]

theorem pollPeriodField_iff {raw : BitVec 16} {keep x : Nat} :
    pollPeriodField raw keep = some x ↔ raw = 0xFFFF#16 ∧ x = keep ∨ raw.toNat ≤ 1000 ∧ x = raw.toNat := by
  unfold pollPeriodField
  by_cases h : raw = 0xFFFF#16
  · subst h
    simp [eq_comm]
  · by_cases hle : raw.toNat ≤ 1000
    · simp [h, hle, eq_comm]
    · simp [h, hle]

/-- An option block is read field by field. -/
theorem optionsOver_eq_some {keep o : Options} {b : OptionBlock} : optionsOver keep b = some o ↔
    pollPeriodField b.pollPeriod keep.pollPeriod = some o.pollPeriod ∧
    optionByte b.retryLimit keep.retryLimit (upTo 3) = some o.retryLimit ∧
    optionByte b.verify keep.verify offOn = some o.verify ∧
    optionByte b.layerOrder keep.layerOrder layerOrderCode = some o.layerOrder ∧
    optionByte b.hysteresis keep.hysteresis (upTo 4) = some o.hysteresis ∧
    optionByte b.indexMode keep.indexMode indexModeCode = some o.indexMode ∧
    optionByte b.alarmLatch keep.alarmLatch latchCode = some o.alarmLatch ∧
    optionByte b.warnLatch keep.warnLatch latchCode = some o.warnLatch ∧
    optionByte b.indexEvents keep.indexEvents offOn = some o.indexEvents := by
  unfold optionsOver
  constructor
  · intro h
    split at h
    · rename_i hp hr hv hl hh hm ha hw hi
      cases h
      exact ⟨hp, hr, hv, hl, hh, hm, ha, hw, hi⟩
    · cases h
  · rintro ⟨hp, hr, hv, hl, hh, hm, ha, hw, hi⟩
    rw [hp, hr, hv, hl, hh, hm, ha, hw, hi]

/-! ### Watch records -/

/-- Two limits are in order when, both present, the low one is not above the high one. -/
theorem pairInOrder_limits (signed : Bool) (presence : Byte) (i j : Nat) (low high : Byte) :
    pairInOrder signed (presentLimit presence i low) (presentLimit presence j high) = true ↔
      (presence.getLsbD i = true → presence.getLsbD j = true →
        (if signed then low.toInt else (low.toNat : Int)) ≤ if signed then high.toInt else (high.toNat : Int)) := by
  unfold presentLimit
  cases presence.getLsbD i <;> cases presence.getLsbD j <;> cases signed <;> simp [pairInOrder]

theorem readWatch_eq_some {rec : WatchRecord} {i : Fin 8} {w : Watch} : readWatch rec = some (i, w) ↔
    rec.index.toNat = i.val ∧
      (rec.state = 0#8 ∧ w = Watch.reset ∨ rec.state = 1#8 ∧ recordOk rec = true ∧ w = recordWatch rec) := by
  unfold readWatch
  by_cases hi : rec.index.toNat < 8
  · rw [dif_pos hi]
    have hidx : (⟨rec.index.toNat, hi⟩ : Fin 8) = i ↔ rec.index.toNat = i.val := Fin.ext_iff
    by_cases h0 : rec.state = 0#8
    · simp [h0, hidx, eq_comm (a := w)]
    · by_cases h1 : rec.state = 1#8 ∧ recordOk rec = true
      · simp [h1.1, h1.2, hidx, eq_comm (a := w)]
      · rw [if_neg h0, if_neg h1]
        simp only [reduceCtorEq, false_iff]
        tauto
  · rw [dif_neg hi]
    simp only [reduceCtorEq, false_iff]
    have := i.isLt
    omega

/-- Settles O26: the fields of the setup block, of submission records, of option blocks and of watch records. -/
theorem parametersAreRead : Obligations.ParametersAreRead := by
  unfold Obligations.ParametersAreRead
  refine ⟨fun bs n => ⟨rfl, le16_toNat bs n, le64_toNat bs n⟩, fun bs => ⟨fun q => rfl, ⟨rfl, rfl, rfl⟩, ⟨rfl, rfl, rfl⟩,
    fun p => ?_, rfl⟩, fun bs opts w kind hkind hopts hw => ?_, fun keep o b => ?_, fun rec i w num limit hnum hlimit => ?_⟩
  · rw [setupPort, show 97 + 4 * p.val = 96 + 4 * p.val + 1 by omega, show 98 + 4 * p.val = 96 + 4 * p.val + 2 by omega]
  · have hopts' : optionBlockAt bs 6 = opts := hopts.symm
    have hw' : watchRecordAt bs 4 = w := hw.symm
    refine ⟨rfl, rfl, ?_, ?_, ?_, ?_, ?_, ?_, ?_, ?_, ?_, ?_, ?_, ?_, ?_, ?_, ?_, ?_, fun hno => readCmd_none (hkind ▸ hno)⟩
    all_goals
      intro hk
      rw [readCmd, ← hkind, hk]
    all_goals simp only [hopts', hw']
  · exact optionsOver_eq_some.trans <| and_congr pollPeriodField_iff <| and_congr (numberOption_iff (by decide)) <|
      and_congr (codeOption_iff fun r => rfl) <| and_congr (codeOption_iff fun r => rfl) <|
      and_congr (numberOption_iff (by decide)) <| and_congr (codeOption_iff fun r => rfl) <|
      and_congr (codeOption_iff fun r => rfl) <| and_congr (codeOption_iff fun r => rfl) (codeOption_iff fun r => rfl)
  · have hlimit' (n : Nat) (b : Byte) : presentLimit rec.presence n b = limit n b := (hlimit n b).symm
    have hok : recordOk rec = true ↔ rec.address.toNat ≤ 63 ∧
        (rec.presence.getLsbD 0 = true → rec.presence.getLsbD 1 = true → num rec.alarmLow ≤ num rec.alarmHigh) ∧
        (rec.presence.getLsbD 2 = true → rec.presence.getLsbD 3 = true → num rec.warnLow ≤ num rec.warnHigh) ∧
        (rec.options.getLsbD 1 = true → rec.options.getLsbD 0 = true) := by
      simp only [hnum, recordOk, recordWatch, Bool.and_eq_true, decide_eq_true_eq, pairInOrder_limits, and_assoc,
        Bool.or_eq_true, Bool.not_eq_true', ← Bool.not_eq_true, imp_iff_not_or]
    rw [readWatch_eq_some, hok]
    simp only [recordWatch, hlimit', and_assoc]

end Sys2Proof.Machine
end

section
/-! What the part writes (spec/11): records, the lane report, and result words. -/

namespace Sys2Proof.Machine

/-! ### Bytes of concatenations -/

theorem byteAt_append_left {xs ys : List Byte} {i : Nat} (h : i < xs.length) : byteAt (xs ++ ys) i = byteAt xs i :=
  List.getD_append _ _ _ _ h

theorem byteAt_append_right {xs ys : List Byte} {k : Nat} (hk : xs.length = k) (i : Nat) :
    byteAt (xs ++ ys) (k + i) = byteAt ys i := by
  subst hk
  rw [byteAt, List.getD_append_right _ _ _ _ (by omega)]
  congr 1
  omega

/-- A byte past the end of a list. -/
theorem byteAt_past {xs : List Byte} {i : Nat} (h : xs.length ≤ i) : byteAt xs i = 0 := List.getD_eq_default _ _ h

/-- A byte of a middle part. -/
theorem byteAt_part {bs pre part post : List Byte} {k i : Nat} (h : bs = pre ++ (part ++ post)) (hk : pre.length = k)
    (hi : i < part.length) : byteAt bs (k + i) = byteAt part i := by
  rw [h, byteAt_append_right hk, byteAt_append_left hi]

theorem byteAt_toBytes (ns : List Nat) (i : Nat) : byteAt (toBytes ns) i = BitVec.ofNat 8 (ns.getD i 0) := by
  rw [byteAt, toBytes, List.getD_eq_getElem?_getD, List.getD_eq_getElem?_getD, List.getElem?_map]
  cases ns[i]? <;> rfl

theorem padTo_length (n : Nat) (bs : List Byte) : (padTo n bs).length = n := by
  simp [padTo]

theorem byteAt_padTo {n i : Nat} (bs : List Byte) (h : i < n) : byteAt (padTo n bs) i = byteAt bs i := by
  rw [byteAt, padTo, List.getD_eq_getElem?_getD, List.getElem?_take_of_lt h, ← List.getD_eq_getElem?_getD]
  by_cases hi : i < bs.length
  · exact byteAt_append_left hi
  · obtain ⟨k, rfl⟩ : ∃ k, i = bs.length + k := ⟨i - bs.length, by omega⟩
    have hzero : byteAt (bs ++ List.replicate n 0#8) (bs.length + k) = 0 := by
      rw [byteAt_append_right rfl, byteAt, List.getD_eq_getElem?_getD, List.getElem?_replicate]
      split <;> rfl
    exact hzero.trans (byteAt_past (by omega)).symm

/-- A byte of one of many parts of one length. -/
theorem byteAt_flatten {n : Nat} {xs : List (List Byte)} (hn : ∀ x ∈ xs, x.length = n) {k i : Nat} (hi : i < n)
    {x : List Byte} (hk : xs[k]? = some x) : byteAt xs.flatten (n * k + i) = byteAt x i := by
  induction xs generalizing k with
  | nil => simp at hk
  | cons y ys ih =>
    have hy := hn y List.mem_cons_self
    rw [List.flatten_cons]
    cases k with
    | zero =>
      obtain rfl : y = x := by simpa using hk
      rw [Nat.mul_zero, Nat.zero_add]
      exact byteAt_append_left (by omega)
    | succ k =>
      rw [show n * (k + 1) + i = n + (n * k + i) by ring, byteAt_append_right hy]
      exact ih (fun z hz => hn z (List.mem_cons_of_mem _ hz)) hk

theorem flatten_length {n : Nat} {xs : List (List Byte)} (hn : ∀ x ∈ xs, x.length = n) :
    xs.flatten.length = n * xs.length := by
  induction xs with
  | nil => rfl
  | cons y ys ih =>
    rw [List.flatten_cons, List.length_append, hn y List.mem_cons_self, ih fun z hz => hn z (List.mem_cons_of_mem _ hz),
      List.length_cons]
    ring

theorem ofNat8_toNat {n : Nat} (h : n < 256) : (BitVec.ofNat 8 n).toNat = n := by
  rw [BitVec.toNat_ofNat, Nat.mod_eq_of_lt h]

/-- Two bytes of a number, the least significant first. -/
theorem le16_of_bytes {bs : List Byte} {n v : Nat} (h0 : byteAt bs n = BitVec.ofNat 8 v)
    (h1 : byteAt bs (n + 1) = BitVec.ofNat 8 (v / 256)) : le16 bs n = BitVec.ofNat 16 v := by
  refine BitVec.eq_of_toNat_eq ?_
  rw [le16_toNat, h0, h1, BitVec.toNat_ofNat, BitVec.toNat_ofNat, BitVec.toNat_ofNat]
  omega

theorem leBytes_two (v : Nat) : leBytes 2 v = [BitVec.ofNat 8 v, BitVec.ofNat 8 (v / 256)] := by
  simp [leBytes, List.range_succ]

theorem leBytes_four (v : Nat) : leBytes 4 v = [BitVec.ofNat 8 v, BitVec.ofNat 8 (v / 256),
    BitVec.ofNat 8 (v / 65536), BitVec.ofNat 8 (v / 65536 / 256)] := by
  simp [leBytes, List.range_succ, Nat.div_div_eq_div_mul]

/-! ### Codes -/

theorem statusCode_lt (st : Status) : statusCode st < 256 := by cases st <;> decide
theorem failureCode_lt (f : Failure) : failureCode f < 256 := by cases f <;> decide
theorem laneStateCode_lt (st : LaneState) : laneStateCode st < 256 := by cases st <;> decide
theorem eventCode_lt (e : Event) : e.code < 256 := by cases e <;> simp [Event.code]

theorem detailCode_lt (d : Option Detail) : detailCode d < 256 := by
  match d with
  | none => decide
  | some (.outcome f) => cases f <;> decide
  | some (.chain e) => cases e <;> decide

theorem orFF_lt {v : Option Nat} (h : ∀ n ∈ v, n < 256) : orFF v < 256 := by
  cases v with
  | none => decide
  | some n => exact h n rfl

theorem orFF_fin_lt {n : Nat} (hn : n ≤ 256) {α : Type} (f : α → Fin n) (v : Option α) :
    orFF (v.map fun x => (f x).val) < 256 := by
  refine orFF_lt fun m hm => ?_
  obtain ⟨x, -, rfl⟩ := Option.map_eq_some_iff.1 hm
  exact (f x).isLt.trans_le hn

/-! ### Completion and event records -/

/-- A completion record byte by byte. -/
theorem completionRecord_bytes (id : CmdId) (st : Status) (d : Option Detail) (lane : Option Byte) (head : Nat)
    (result : Option Word) (phase : Bool) : completionRecord id st d lane head result phase =
      [BitVec.ofNat 8 id.tag.toNat, BitVec.ofNat 8 (id.tag.toNat / 256), BitVec.ofNat 8 id.ring.val,
       BitVec.ofNat 8 (statusCode st), BitVec.ofNat 8 (detailCode d), lane.getD 0xFF#8, BitVec.ofNat 8 head,
       BitVec.ofNat 8 (head / 256), BitVec.ofNat 8 (result.getD 0).toNat, BitVec.ofNat 8 ((result.getD 0).toNat / 256),
       BitVec.ofNat 8 ((result.getD 0).toNat / 65536), BitVec.ofNat 8 ((result.getD 0).toNat / 65536 / 256), 0, 0, 0,
       BitVec.ofNat 8 (phase.toNat + 2 * presentBit result)] := by
  rw [completionRecord, leBytes_two, leBytes_two, leBytes_four]
  rfl

/-- Two halves of a word. -/
theorem word_halves (w : Word) : (BitVec.ofNat 16 (w.toNat / 65536) ++ BitVec.ofNat 16 w.toNat : BitVec (16 + 16)) = w := by
  refine BitVec.eq_of_toNat_eq ?_
  rw [append_toNat, BitVec.toNat_ofNat, BitVec.toNat_ofNat]
  have := w.isLt
  omega

theorem completionRecord_layout (id : CmdId) (st : Status) (d : Option Detail) (lane : Option Byte) (head : Nat)
    (result : Option Word) (phase : Bool) (hhead : head < 1024) {bs : List Byte}
    (hbs : bs = completionRecord id st d lane head result phase) :
    bs.length = 16 ∧ le16 bs 0 = id.tag ∧ (byteAt bs 2).toNat = id.ring.val ∧
      (byteAt bs 3).toNat = statusCode st ∧ (byteAt bs 4).toNat = detailCode d ∧
      byteAt bs 5 = lane.getD 0xFF#8 ∧ (le16 bs 6).toNat = head ∧ le16 bs 10 ++ le16 bs 8 = result.getD 0 ∧
      byteAt bs 12 = 0 ∧ byteAt bs 13 = 0 ∧ byteAt bs 14 = 0 ∧
      (byteAt bs 15).toNat = phase.toNat + 2 * result.isSome.toNat := by
  rw [completionRecord_bytes] at hbs
  subst hbs
  have hphase := Bool.toNat_le phase
  have hsome := Bool.toNat_le result.isSome
  refine ⟨rfl, (le16_of_bytes rfl rfl).trans (by simp), ofNat8_toNat (by omega), ofNat8_toNat (statusCode_lt st),
    ofNat8_toNat (detailCode_lt d), rfl, ?_, ?_, rfl, rfl, rfl, ofNat8_toNat (by simp only [presentBit]; omega)⟩
  · rw [le16_of_bytes (v := head) rfl rfl, BitVec.toNat_ofNat]
    omega
  · rw [le16_of_bytes (n := 8) (v := (result.getD 0).toNat) rfl rfl,
      le16_of_bytes (n := 10) (v := (result.getD 0).toNat / 65536) rfl rfl]
    exact word_halves _

theorem eventRecord_layout (e : Event) (lost : Nat) (phase : Bool) (hlost : lost ≤ 65535) {bs : List Byte}
    (hbs : bs = eventRecord e lost phase) :
    bs.length = 16 ∧ (byteAt bs 0).toNat = e.code ∧ (byteAt bs 1).toNat = (e.lane.map (·.val)).getD 0xFF ∧
      (le16 bs 2).toNat = lost ∧ (∀ i < 10, byteAt bs (4 + i) = BitVec.ofNat 8 ((eventContent e).getD i 0)) ∧
      byteAt bs 14 = 0 ∧ (byteAt bs 15).toNat = phase.toNat := by
  obtain ⟨part, hpart⟩ : ∃ part, part = padTo 10 (toBytes (eventContent e)) := ⟨_, rfl⟩
  have hlen : part.length = 10 := by rw [hpart, padTo_length]
  obtain ⟨pre, hpre⟩ : ∃ pre : List Byte, pre = [BitVec.ofNat 8 e.code, BitVec.ofNat 8 (orFF (e.lane.map (·.val))),
    BitVec.ofNat 8 lost, BitVec.ofNat 8 (lost / 256)] := ⟨_, rfl⟩
  have hparts : bs = pre ++ (part ++ [0, BitVec.ofNat 8 phase.toNat]) := by
    rw [hbs, eventRecord, leBytes_two, ← hpart, hpre]
    simp
  have hprelen : pre.length = 4 := by rw [hpre]; rfl
  have hhead {i : Nat} (hi : i < 4) : byteAt bs i = byteAt pre i := by
    rw [hparts, byteAt_append_left (by omega)]
  have htail (i : Nat) : byteAt bs (14 + i) = byteAt [0, BitVec.ofNat 8 phase.toNat] i := by
    rw [hparts, ← List.append_assoc, byteAt_append_right (by simp [hprelen, hlen])]
  have hphase := Bool.toNat_le phase
  refine ⟨by rw [hparts]; simp [hprelen, hlen], ?_, ?_, ?_, fun i hi => ?_, htail 0, ?_⟩
  · rw [hhead (by decide), hpre]
    exact ofNat8_toNat (eventCode_lt e)
  · rw [hhead (by decide), hpre]
    exact ofNat8_toNat (orFF_fin_lt (by decide) id e.lane)
  · rw [le16_of_bytes (v := lost) ((hhead (by decide)).trans (by rw [hpre]; rfl))
      ((hhead (by decide)).trans (by rw [hpre]; rfl)), BitVec.toNat_ofNat]
    omega
  · rw [byteAt_part hparts hprelen (by omega), hpart, byteAt_padTo _ hi, byteAt_toBytes]
  · rw [htail 1]
    exact ofNat8_toNat (by omega)

/-! ### The lane report -/

/-- Bytes 0 to 23 of a lane report. -/
def reportHead (L : Lane) (port : Option Port) : List Byte :=
  toBytes [laneStateCode L.state, orFF (L.binding.map (·.port.val)), orFF (L.binding.map (·.select.val)),
    purposeCode L.purpose] ++
  optionBytes L.options ++
  [BitVec.ofNat 8 (indexCode L.index), BitVec.ofNat 8 L.restartCount] ++
  leBytes 2 L.overrunCount ++
  toBytes [L.waiters.length, L.image.queue.length, L.table.length,
    ((port.map fun p => p.enabled.toNat).getD 0), ((port.map (·.bitRate)).getD 0),
    ((port.map (·.window)).getD 0)]

/-- The watch slots of a lane report. -/
def reportWatches (L : Lane) : List Byte := ((List.finRange 8).map fun j => watchBytes j.val L.watches[j]).flatten

/-- The entry records of a lane report. -/
def reportEntries (L : Lane) : List Byte := (L.image.entries.toList.map entryBytes).flatten

/-- The column slots of a lane report, those that are set. -/
def reportColumns (L : Lane) : List Byte := ((sortColumns L.table).map columnBytes).flatten

/-- The parts of a lane report, in the order in which it holds them. -/
theorem reportBytes_eq (L : Lane) (port : Option Port) : reportBytes L port =
    reportHead L port ++ List.replicate 8 0#8 ++ padTo 64 (toBytes L.image.queue) ++ reportEntries L ++ reportWatches L ++
      padTo 288 (reportColumns L) ++ List.replicate 8 0#8 := by
  have hwatches : reportWatches L = watchBytes 0 L.watches[0] ++ watchBytes 1 L.watches[1] ++
      watchBytes 2 L.watches[2] ++ watchBytes 3 L.watches[3] ++ watchBytes 4 L.watches[4] ++
      watchBytes 5 L.watches[5] ++ watchBytes 6 L.watches[6] ++ watchBytes 7 L.watches[7] := by
    simp [reportWatches, List.finRange_succ]
  rw [hwatches]
  rfl

theorem toBytes_length (ns : List Nat) : (toBytes ns).length = ns.length := List.length_map _

theorem reportHead_bytes (L : Lane) (port : Option Port) : reportHead L port =
    toBytes [laneStateCode L.state, orFF (L.binding.map (·.port.val)), orFF (L.binding.map (·.select.val)),
      purposeCode L.purpose, L.options.pollPeriod, L.options.pollPeriod / 256, L.options.retryLimit,
      L.options.verify.toNat, (decide (L.options.layerOrder = .calFirst)).toNat, L.options.hysteresis,
      (decide (L.options.indexMode = .manual)).toNat, (decide (L.options.alarmLatch = .latched)).toNat,
      (decide (L.options.warnLatch = .latched)).toNat, L.options.indexEvents.toNat, indexCode L.index, L.restartCount,
      L.overrunCount, L.overrunCount / 256, L.waiters.length, L.image.queue.length, L.table.length,
      ((port.map fun p => p.enabled.toNat).getD 0), ((port.map (·.bitRate)).getD 0),
      ((port.map (·.window)).getD 0)] := by
  rw [reportHead, optionBytes, leBytes_two, leBytes_two]
  rfl

theorem entryBytes_length (e : Entry) : (entryBytes e).length = 8 := by simp [entryBytes, toBytes_length]
theorem watchBytes_length (i : Nat) (w : Watch) : (watchBytes i w).length = 16 := by simp [watchBytes, toBytes_length]
theorem columnBytes_length (c : Column) : (columnBytes c).length = 36 := by simp [columnBytes]

theorem reportHead_length (L : Lane) (port : Option Port) : (reportHead L port).length = 24 := by
  rw [reportHead_bytes, toBytes_length]
  rfl

theorem reportEntries_length (L : Lane) : (reportEntries L).length = 504 := by
  rw [reportEntries, flatten_length (n := 8)]
  · simp
  · simp only [List.mem_map, forall_exists_index, and_imp, forall_apply_eq_imp_iff₂]
    exact fun e _ => entryBytes_length e

theorem reportWatches_length (L : Lane) : (reportWatches L).length = 128 := by
  rw [reportWatches, flatten_length (n := 16)]
  · simp
  · simp only [List.mem_map, forall_exists_index, and_imp, forall_apply_eq_imp_iff₂]
    exact fun j _ => watchBytes_length j _

theorem columnBytes_lengths (cs : List Column) : ∀ x ∈ cs.map columnBytes, x.length = 36 := by
  simp only [List.mem_map, forall_exists_index, and_imp, forall_apply_eq_imp_iff₂]
  exact fun c _ => columnBytes_length c

/-- Where the parts of a lane report stand. -/
theorem reportBytes_parts (L : Lane) (port : Option Port) {bs : List Byte} (hbs : bs = reportBytes L port) :
    bs.length = 1024 ∧ (∀ i < 24, byteAt bs i = byteAt (reportHead L port) i) ∧
      (∀ i < 8, byteAt bs (24 + i) = 0) ∧
      (∀ i < 64, byteAt bs (32 + i) = byteAt (padTo 64 (toBytes L.image.queue)) i) ∧
      (∀ i < 504, byteAt bs (96 + i) = byteAt (reportEntries L) i) ∧
      (∀ i < 128, byteAt bs (600 + i) = byteAt (reportWatches L) i) ∧
      (∀ i < 288, byteAt bs (728 + i) = byteAt (reportColumns L) i) ∧ ∀ i, byteAt bs (1016 + i) = 0 := by
  have hhead := reportHead_length L port
  have hqueue := padTo_length 64 (toBytes L.image.queue)
  have hentries := reportEntries_length L
  have hwatches := reportWatches_length L
  have hcolumns := padTo_length 288 (reportColumns L)
  have hzeros (i : Nat) : byteAt (List.replicate 8 0#8) i = 0 := by
    rw [byteAt, List.getD_eq_getElem?_getD, List.getElem?_replicate]
    split <;> rfl
  rw [reportBytes_eq] at hbs
  refine ⟨by rw [hbs]; simp [hhead, hqueue, hentries, hwatches, hcolumns], fun i hi => ?_, fun i hi => ?_, fun i hi => ?_,
    fun i hi => ?_, fun i hi => ?_, fun i hi => ?_, fun i => ?_⟩
  · rw [hbs]
    simp only [List.append_assoc]
    exact byteAt_append_left (by omega)
  · rw [byteAt_part (part := List.replicate 8 0#8) (by rw [hbs]; simp only [List.append_assoc]; rfl) hhead (by simpa using hi),
      hzeros]
  · exact byteAt_part (pre := reportHead L port ++ List.replicate 8 0#8) (by rw [hbs]; simp only [List.append_assoc]; rfl)
      (by simp [hhead]) (by omega)
  · exact byteAt_part (pre := reportHead L port ++ List.replicate 8 0#8 ++ padTo 64 (toBytes L.image.queue))
      (by rw [hbs]; simp only [List.append_assoc]; rfl) (by simp [hhead, hqueue]) (by omega)
  · exact byteAt_part (pre := reportHead L port ++ List.replicate 8 0#8 ++ padTo 64 (toBytes L.image.queue) ++
      reportEntries L) (by rw [hbs]; simp only [List.append_assoc]; rfl) (by simp [hhead, hqueue, hentries]) (by omega)
  · rw [← byteAt_padTo _ hi]
    exact byteAt_part (pre := reportHead L port ++ List.replicate 8 0#8 ++ padTo 64 (toBytes L.image.queue) ++
      reportEntries L ++ reportWatches L) (by rw [hbs]; simp only [List.append_assoc]; rfl)
      (by simp [hhead, hqueue, hentries, hwatches]) (by omega)
  · rw [hbs, byteAt_append_right (by simp [hhead, hqueue, hentries, hwatches, hcolumns]), hzeros]

/-- Columns in strictly ascending order of target are the sorted table. -/
theorem sortColumns_eq {table columns : List Column} (hperm : columns.Perm table)
    (hsorted : columns.Pairwise fun c d => c.target < d.target) : sortColumns table = columns := by
  have hp : (sortColumns table).Perm columns := (sortOn_perm _ table).trans hperm.symm
  refine hp.eq_of_pairwise (le := fun c d : Column => c.target ≤ d.target) (fun c d hc hd hcd hdc => ?_)
    (sortOn_sorted (·.target) table) (hsorted.imp fun h => Nat.le_of_lt h)
  have htarget : c.target = d.target := Nat.le_antisymm hcd hdc
  have hnodup : (columns.map (·.target)).Nodup := List.pairwise_map.2 (hsorted.imp fun h => Nat.ne_of_lt h)
  exact List.inj_on_of_nodup_map hnodup (hp.subset hc) hd htarget

theorem reportHead_byte (L : Lane) (port : Option Port) (i n : Nat)
    (h : [laneStateCode L.state, orFF (L.binding.map (·.port.val)), orFF (L.binding.map (·.select.val)),
      purposeCode L.purpose, L.options.pollPeriod, L.options.pollPeriod / 256, L.options.retryLimit,
      L.options.verify.toNat, (decide (L.options.layerOrder = .calFirst)).toNat, L.options.hysteresis,
      (decide (L.options.indexMode = .manual)).toNat, (decide (L.options.alarmLatch = .latched)).toNat,
      (decide (L.options.warnLatch = .latched)).toNat, L.options.indexEvents.toNat, indexCode L.index, L.restartCount,
      L.overrunCount, L.overrunCount / 256, L.waiters.length, L.image.queue.length, L.table.length,
      ((port.map fun p => p.enabled.toNat).getD 0), ((port.map (·.bitRate)).getD 0),
      ((port.map (·.window)).getD 0)].getD i 0 = n) : byteAt (reportHead L port) i = BitVec.ofNat 8 n := by
  rw [reportHead_bytes, byteAt_toBytes, h]

theorem purposeCode_lt (p : Option ProbePurpose) : purposeCode p < 256 := by
  match p with
  | none => decide
  | some .attach => decide
  | some .resume => decide

/-- The option bytes of a report in the words of Table 3-3. -/
theorem reportOptions_eq (o : Options) : [o.retryLimit, o.verify.toNat, (decide (o.layerOrder = .calFirst)).toNat,
    o.hysteresis, (decide (o.indexMode = .manual)).toNat, (decide (o.alarmLatch = .latched)).toNat,
    (decide (o.warnLatch = .latched)).toNat, o.indexEvents.toNat] =
    [o.retryLimit, o.verify.toNat, if o.layerOrder = .holdFirst then 0 else 1, o.hysteresis,
      if o.indexMode = .auto then 0 else 1, if o.alarmLatch = .live then 0 else 1,
      if o.warnLatch = .live then 0 else 1, o.indexEvents.toNat] := by
  have hl : (decide (o.layerOrder = .calFirst)).toNat = if o.layerOrder = .holdFirst then 0 else 1 := by
    cases o.layerOrder <;> rfl
  have hm : (decide (o.indexMode = .manual)).toNat = if o.indexMode = .auto then 0 else 1 := by
    cases o.indexMode <;> rfl
  have hlatch (x : Latch) : (decide (x = .latched)).toNat = if x = .live then 0 else 1 := by cases x <;> rfl
  rw [hl, hm, hlatch, hlatch]

/-- An option byte of a report. -/
theorem reportOption_byte (L : Lane) (port : Option Port) {i : Nat} (hi : i < 8) :
    byteAt (reportHead L port) (6 + i) = BitVec.ofNat 8
      ([L.options.retryLimit, L.options.verify.toNat, if L.options.layerOrder = .holdFirst then 0 else 1,
        L.options.hysteresis, if L.options.indexMode = .auto then 0 else 1,
        if L.options.alarmLatch = .live then 0 else 1, if L.options.warnLatch = .live then 0 else 1,
        L.options.indexEvents.toNat].getD i 0) := by
  rw [← reportOptions_eq]
  refine reportHead_byte L port (6 + i) _ ?_
  interval_cases i <;> rfl

/-- An entry record's byte of a report. -/
theorem reportEntries_byte (L : Lane) {a i : Nat} (ha : a ∈ addresses) (hi : i < 8) :
    byteAt (reportEntries L) (8 * (a - 1) + i) = byteAt (entryBytes (L.image.get a)) i := by
  obtain ⟨h1, h2⟩ := mem_addresses.1 ha
  refine byteAt_flatten (n := 8) ?_ hi ?_
  · simp only [List.mem_map, forall_exists_index, and_imp, forall_apply_eq_imp_iff₂]
    exact fun e _ => entryBytes_length e
  · have hlt : a - 1 < 63 := by omega
    rw [List.getElem?_map, Image.get, entryAt_of ⟨h1, h2⟩]
    simp [hlt]

/-- A watch slot's byte of a report. -/
theorem reportWatches_byte (L : Lane) (j : Fin 8) {i : Nat} (hi : i < 16) :
    byteAt (reportWatches L) (16 * j.val + i) = byteAt (watchBytes j.val L.watches[j]) i := by
  refine byteAt_flatten (n := 16) ?_ hi ?_
  · simp only [List.mem_map, forall_exists_index, and_imp, forall_apply_eq_imp_iff₂]
    exact fun j _ => watchBytes_length j _
  · simp

/-- A column slot's byte of a report. -/
theorem reportColumns_byte {L : Lane} {columns : List Column} (hcols : sortColumns L.table = columns) {k : Nat}
    {c : Column} (hk : columns[k]? = some c) {i : Nat} (hi : i < 36) :
    byteAt (reportColumns L) (36 * k + i) = byteAt (columnBytes c) i := by
  rw [reportColumns, hcols]
  exact byteAt_flatten (n := 36) (columnBytes_lengths columns) hi (by rw [List.getElem?_map, hk]; rfl)

theorem columnBytes_byte (c : Column) : byteAt (columnBytes c) 0 = BitVec.ofNat 8 c.target ∧
    (∀ i < 3, byteAt (columnBytes c) (1 + i) = 0) ∧ ∀ i : Fin 32, byteAt (columnBytes c) (4 + i.val) = c.rows[i] := by
  refine ⟨rfl, fun i hi => ?_, fun i => ?_⟩
  · interval_cases i <;> rfl
  · refine (byteAt_append_right (k := 4) rfl i.val).trans ?_
    rw [byteAt, List.getD_eq_getElem?_getD]
    simp

/-! ### Result words -/

/-- LANE_SET's result as a number, with its fields. -/
theorem optionsResult_fields {o : Options} (ho : o.Ranged) : ∃ N, optionsResult o = BitVec.ofNat 32 N ∧ N < 2 ^ 32 ∧
    N / 2 ^ 0 % 2 ^ 10 = o.pollPeriod ∧ N / 2 ^ 10 % 2 ^ 2 = o.retryLimit ∧ N / 2 ^ 12 % 2 = o.verify.toNat ∧
    N / 2 ^ 13 % 2 = (decide (o.layerOrder = .calFirst)).toNat ∧ N / 2 ^ 14 % 2 ^ 3 = o.hysteresis ∧
    N / 2 ^ 17 % 2 = (decide (o.indexMode = .manual)).toNat ∧
    N / 2 ^ 18 % 2 = (decide (o.alarmLatch = .latched)).toNat ∧
    N / 2 ^ 19 % 2 = (decide (o.warnLatch = .latched)).toNat ∧ N / 2 ^ 20 % 2 = o.indexEvents.toNat := by
  obtain ⟨hp, hr, hh⟩ := ho
  have h1 := Bool.toNat_le o.verify
  have h2 := Bool.toNat_le (decide (o.layerOrder = .calFirst))
  have h3 := Bool.toNat_le (decide (o.indexMode = .manual))
  have h4 := Bool.toNat_le (decide (o.alarmLatch = .latched))
  have h5 := Bool.toNat_le (decide (o.warnLatch = .latched))
  have h6 := Bool.toNat_le o.indexEvents
  refine ⟨_, rfl, ?_⟩
  omega

/-- The flags of a watch as a number of four bits. -/
theorem flags_bits (f : Flags) : f.toNat < 16 ∧ f.toNat % 2 = f.al.toNat ∧ f.toNat / 2 % 2 = f.ah.toNat ∧
    f.toNat / 4 % 2 = f.wl.toNat ∧ f.toNat / 8 % 2 = f.wh.toNat := by
  have h1 := Bool.toNat_le f.al
  have h2 := Bool.toNat_le f.ah
  have h3 := Bool.toNat_le f.wl
  have h4 := Bool.toNat_le f.wh
  simp only [Flags.toNat]
  omega

/-- FLAGS_CLEAR's result as a number: four bits a watch. -/
theorem flagsResult_fields (ws : Vector Watch 8) : ∃ N, flagsResult ws = BitVec.ofNat 32 N ∧ N < 2 ^ 32 ∧
    ∀ i : Fin 8, N / 2 ^ (4 * i.val) % 16 = ws[i].flags.toNat := by
  have hlt (i : Nat) (hi : i < 8) : ws[i].flags.toNat < 16 := (flags_bits _).1
  have h0 := hlt 0 (by decide)
  have h1 := hlt 1 (by decide)
  have h2 := hlt 2 (by decide)
  have h3 := hlt 3 (by decide)
  have h4 := hlt 4 (by decide)
  have h5 := hlt 5 (by decide)
  have h6 := hlt 6 (by decide)
  have h7 := hlt 7 (by decide)
  refine ⟨_, rfl, by omega, fun ⟨i, hi⟩ => ?_⟩
  simp only [Fin.getElem_fin]
  interval_cases i <;> omega

/-- The flag bits of FLAGS_CLEAR's result. -/
theorem flagsResult_bits (ws : Vector Watch 8) (i : Fin 8) :
    (flagsResult ws).getLsbD (4 * i.val) = ws[i].flags.al ∧ (flagsResult ws).getLsbD (4 * i.val + 1) = ws[i].flags.ah ∧
    (flagsResult ws).getLsbD (4 * i.val + 2) = ws[i].flags.wl ∧ (flagsResult ws).getLsbD (4 * i.val + 3) = ws[i].flags.wh := by
  obtain ⟨N, hw, hN, hi⟩ := flagsResult_fields ws
  obtain ⟨-, h0, h1, h2, h3⟩ := flags_bits ws[i].flags
  have hfield := hi i
  have hdiv (k : Nat) : N / 2 ^ (4 * i.val + k) = N / 2 ^ (4 * i.val) / 2 ^ k := by
    rw [Nat.div_div_eq_div_mul, ← pow_add]
  rw [hw]
  refine ⟨word_bit hN ?_, word_bit hN ?_, word_bit hN ?_, word_bit hN ?_⟩
  · omega
  · rw [hdiv]; omega
  · rw [hdiv]; omega
  · rw [hdiv]; omega

theorem resultWord_toNat {b0 b1 b2 b3 : Nat} (h0 : b0 < 256) (h1 : b1 < 256) (h2 : b2 < 256) (h3 : b3 < 256) :
    (resultWord b0 b1 b2 b3).toNat = b0 + 256 * b1 + 65536 * b2 + 16777216 * b3 := by
  rw [resultWord, BitVec.toNat_ofNat]
  omega

/-- A lane report by Table 11-10. -/
theorem report_layout (L : Lane) (p : Option Port) (bs : List Byte) (columns : List Column) (entry : Entry → List Nat)
    (watch : Nat → Watch → List Nat) (hbs : bs = reportBytes L p) (hq : L.image.queue.length ≤ 63)
    (ht : L.table.length ≤ 8) (hperm : columns.Perm L.table)
    (hsorted : columns.Pairwise fun c d => c.target < d.target) (hentry : ∀ e, entryBytes e = toBytes (entry e))
    (hwatch : ∀ i w, watchBytes i w = toBytes (watch i w)) :
    bs.length = 1024 ∧ (byteAt bs 0).toNat = laneStateCode L.state ∧
    (byteAt bs 1).toNat = (L.binding.map (·.port.val)).getD 0xFF ∧
    (byteAt bs 2).toNat = (L.binding.map (·.select.val)).getD 0xFF ∧ (byteAt bs 3).toNat = purposeCode L.purpose ∧
    le16 bs 4 = BitVec.ofNat 16 L.options.pollPeriod ∧
    (∀ i < 8, byteAt bs (6 + i) = BitVec.ofNat 8
      ([L.options.retryLimit, L.options.verify.toNat,
        if L.options.layerOrder = .holdFirst then 0 else 1, L.options.hysteresis,
        if L.options.indexMode = .auto then 0 else 1, if L.options.alarmLatch = .live then 0 else 1,
        if L.options.warnLatch = .live then 0 else 1, L.options.indexEvents.toNat].getD i 0)) ∧
    (byteAt bs 14).toNat = (L.index.map (·.val)).getD 0xFF ∧
    byteAt bs 15 = BitVec.ofNat 8 L.restartCount ∧ le16 bs 16 = BitVec.ofNat 16 L.overrunCount ∧
    byteAt bs 18 = BitVec.ofNat 8 L.waiters.length ∧
    (byteAt bs 19).toNat = L.image.queue.length ∧ (byteAt bs 20).toNat = L.table.length ∧
    byteAt bs 21 = BitVec.ofNat 8 ((p.map fun x => x.enabled.toNat).getD 0) ∧
    byteAt bs 22 = BitVec.ofNat 8 ((p.map (·.bitRate)).getD 0) ∧
    byteAt bs 23 = BitVec.ofNat 8 ((p.map (·.window)).getD 0) ∧
    (∀ i < 8, byteAt bs (24 + i) = 0) ∧
    (∀ i < 64, byteAt bs (32 + i) = BitVec.ofNat 8 (L.image.queue.getD i 0)) ∧
    (∀ a ∈ addresses, ∀ i < 8,
      byteAt bs (96 + 8 * (a - 1) + i) = BitVec.ofNat 8 ((entry (L.image.get a)).getD i 0)) ∧
    (∀ j : Fin 8, ∀ i < 16,
      byteAt bs (600 + 16 * j.val + i) = BitVec.ofNat 8 ((watch j.val L.watches[j]).getD i 0)) ∧
    (∀ (k : Nat) (c : Column), columns[k]? = some c →
      byteAt bs (728 + 36 * k) = BitVec.ofNat 8 c.target ∧
      (∀ i < 3, byteAt bs (728 + 36 * k + 1 + i) = 0) ∧
      ∀ i : Fin 32, byteAt bs (728 + 36 * k + 4 + i.val) = c.rows[i]) ∧
    ∀ n, 728 + 36 * L.table.length ≤ n → byteAt bs n = 0 := by
  obtain ⟨hlen, hhead, hzeros, hqueue, hentries, hwatches, hcolumns, hend⟩ := reportBytes_parts L p hbs
  have hcols := sortColumns_eq hperm hsorted
  have hbyte {i : Nat} (hi : i < 24) (n : Nat) (h : byteAt (reportHead L p) i = BitVec.ofNat 8 n) :
      byteAt bs i = BitVec.ofNat 8 n := (hhead i hi).trans h
  have hnum {i : Nat} (hi : i < 24) {n : Nat} (hn : n < 256) (h : byteAt (reportHead L p) i = BitVec.ofNat 8 n) :
      (byteAt bs i).toNat = n := by rw [hbyte hi n h, ofNat8_toNat hn]
  refine ⟨hlen, hnum (by decide) (laneStateCode_lt _) (reportHead_byte L p 0 _ rfl),
    hnum (by decide) (orFF_fin_lt (n := 4) (by decide) Binding.port L.binding) (reportHead_byte L p 1 _ rfl),
    hnum (by decide) (orFF_fin_lt (n := 4) (by decide) Binding.select L.binding) (reportHead_byte L p 2 _ rfl),
    hnum (by decide) (purposeCode_lt _) (reportHead_byte L p 3 _ rfl),
    le16_of_bytes (hbyte (by decide) _ (reportHead_byte L p 4 _ rfl)) (hbyte (by decide) _ (reportHead_byte L p 5 _ rfl)),
    fun i hi => (hhead _ (by omega)).trans (reportOption_byte L p hi),
    hnum (by decide) (orFF_fin_lt (by decide) id L.index) (reportHead_byte L p 14 _ rfl),
    hbyte (by decide) _ (reportHead_byte L p 15 _ rfl),
    le16_of_bytes (hbyte (by decide) _ (reportHead_byte L p 16 _ rfl)) (hbyte (by decide) _ (reportHead_byte L p 17 _ rfl)),
    hbyte (by decide) _ (reportHead_byte L p 18 _ rfl),
    hnum (by decide) (by omega) (reportHead_byte L p 19 _ rfl), hnum (by decide) (by omega) (reportHead_byte L p 20 _ rfl),
    hbyte (by decide) _ (reportHead_byte L p 21 _ rfl), hbyte (by decide) _ (reportHead_byte L p 22 _ rfl),
    hbyte (by decide) _ (reportHead_byte L p 23 _ rfl), hzeros, fun i hi => ?_, fun a ha i hi => ?_, fun j i hi => ?_,
    fun k c hk => ?_, fun n hn => ?_⟩
  · rw [hqueue i hi, byteAt_padTo _ hi, byteAt_toBytes]
  · obtain ⟨h1, h2⟩ := mem_addresses.1 ha
    rw [Nat.add_assoc, hentries _ (by omega), reportEntries_byte L ha hi, hentry, byteAt_toBytes]
  · have := j.isLt
    rw [Nat.add_assoc, hwatches _ (by omega), reportWatches_byte L j hi, hwatch, byteAt_toBytes]
  · have hk8 : k < 8 := by
      have hlt : k < columns.length := (List.getElem?_eq_some_iff.1 hk).1
      rw [hperm.length_eq] at hlt
      omega
    have hcolumn {i : Nat} (hi : i < 36) : byteAt bs (728 + (36 * k + i)) = byteAt (columnBytes c) i := by
      rw [hcolumns _ (by omega), reportColumns_byte hcols hk hi]
    obtain ⟨htarget, hgap, hrows⟩ := columnBytes_byte c
    refine ⟨(hcolumn (i := 0) (by decide)).trans htarget, fun i hi => ?_, fun i => ?_⟩
    · rw [show 728 + 36 * k + 1 + i = 728 + (36 * k + (1 + i)) by ring, hcolumn (by omega), hgap i hi]
    · rw [show 728 + 36 * k + 4 + i.val = 728 + (36 * k + (4 + i.val)) by ring, hcolumn (by omega), hrows i]
  · obtain ⟨m, rfl⟩ : ∃ m, n = 728 + m := ⟨n - 728, by omega⟩
    by_cases hm : m < 288
    · have hpast : (reportColumns L).length ≤ m := by
        rw [reportColumns, flatten_length (columnBytes_lengths _), List.length_map, hcols, hperm.length_eq]
        omega
      rw [hcolumns m hm, byteAt_past hpast]
    · rw [show 728 + m = 1016 + (m - 288) by omega, hend]

/-- Settles O21: records, the lane report and the result words, part by part. -/
theorem recordsHaveTheirLayout : Obligations.RecordsHaveTheirLayout := by
  unfold Obligations.RecordsHaveTheirLayout
  refine ⟨fun id st d lane head result phase hhead => completionRecord_layout id st d lane head result phase hhead rfl,
    fun e lost phase content hlost hcontent => ?_,
    fun L p bs columns entry watch hbs hq ht hperm hsorted hentry hwatch => ?_,
    fun b0 b1 b2 b3 => resultWord_toNat, fun o w hw ho => ?_, fun w => rfl, flagsResult_bits, rfl, rfl, rfl, rfl, rfl, rfl,
    rfl, rfl, rfl, fun l q i n a st k f v t r g x y c d => ⟨rfl, rfl⟩⟩
  · have hc : content = eventContent e := by
      rw [hcontent]
      cases e with
      | writeRefused l a v reason t => cases reason <;> rfl
      | indexChange l x y cause t => cases cause <;> rfl
      | ringError q cause => cases cause <;> rfl
      | _ => rfl
    rw [hc]
    exact eventRecord_layout e lost phase hlost rfl
  · have hpurpose : purposeCode L.purpose = match L.purpose with
        | some .attach => 0
        | some .resume => 1
        | none => 0xFF := by
      rcases L.purpose with _ | _ | _ <;> rfl
    have := report_layout L p bs columns entry watch hbs hq ht hperm hsorted (fun e => by rw [hentry]; rfl)
      (fun i w => by rw [hwatch]; rfl)
    rw [hpurpose] at this
    exact this
  · obtain ⟨N, hN, hlt, h0, h10, h12, h13, h14, h17, h18, h19, h20⟩ := optionsResult_fields ho
    rw [hw, hN]
    have hbit {i : Nat} {b : Bool} (h : N / 2 ^ i % 2 = b.toNat) : (BitVec.ofNat 32 N).getLsbD i = b := word_bit hlt h
    exact ⟨word_field hlt h0, word_field hlt h10, hbit h12, by rw [hbit h13, decide_eq_true_iff], word_field hlt h14,
      by rw [hbit h17, decide_eq_true_iff], by rw [hbit h18, decide_eq_true_iff],
      by rw [hbit h19, decide_eq_true_iff], hbit h20⟩

end Sys2Proof.Machine
end

section
/-! PROOF. What the end of a port's frame leaves, by the lane's part of it (R80), and a lane that faults
(R52, R57). -/

namespace Sys2Proof.Machine

/-! ### The lane's part and the rest -/

theorem LaneOut.settleSync_eq (o : LaneOut) : o.settleSync =
    { o with lane := { o.lane with waiters := if o.lane.inSync then [] else o.lane.waiters },
             waiters := o.waiters ++ if o.lane.inSync then o.lane.waiterCompletions .ok else [] } := by
  unfold LaneOut.settleSync
  split_ifs <;> simp

theorem State.applyOut_settleSync (s : State) (p : Fin 4) (l : Fin 16) (out : LaneOut) :
    (s.setPort p { s.ports[p] with frame := none }).applyOut l out.settleSync =
      s.frameLeft p l out.lane out.events out.done out.waiters := by
  rw [LaneOut.settleSync_eq]
  rfl

theorem exec_frameEnd {s : State} {p : Fin 4} {l : Fin 16} {tx : Tx} {a : FrameAnswer} {o : FrameOutcome}
    (h : Ending s p l tx a o) : exec (.frameEnd p a) s = .next (s.frameTaken p { lane := l, tx := tx } o) := by
  obtain ⟨hdev, hframe, rfl⟩ := h
  change execFrameEnd p a s = _
  unfold execFrameEnd
  rw [hframe]
  exact if_neg hdev

/-- The end of a frame, from the lane's part of it before the SYNC waiters are settled. -/
theorem exec_frameEnd_settled {s : State} {p : Fin 4} {l : Fin 16} {tx : Tx} {a : FrameAnswer} {o : FrameOutcome}
    (h : Ending s p l tx a o) {out : LaneOut}
    (hout : s.lanes[l].frameEnd l tx (s.directStopped l) o = out.settleSync) :
    exec (.frameEnd p a) s = .next (s.frameLeft p l out.lane out.events out.done out.waiters).release := by
  rw [exec_frameEnd h, ← State.applyOut_settleSync, ← hout]
  rfl

/-- The end of a frame of a lane that is neither QUIESCING nor DETACHING: the outcome is taken by the rule of
its kind. -/
theorem exec_frameEnd_open {s : State} {p : Fin 4} {l : Fin 16} {tx : Tx} {a : FrameAnswer} {o : FrameOutcome}
    (h : Ending s p l tx a o) {L : Lane} (hL : L = s.lanes[l])
    (hopen : L.state = .probing ∨ L.state = .active ∨ L.state = .quiesced ∨ L.state = .faulted) {out : LaneOut}
    (hout : L.takeOutcome l tx (s.directStopped l) o = out) :
    exec (.frameEnd p a) s = .next (s.frameLeft p l out.lane out.events out.done out.waiters).release := by
  refine exec_frameEnd_settled h ?_
  rw [← hL, ← hout]
  refine Lane.frameEnd_open ((Lane.closed_eq_false_iff L).2 ?_) ?_ l tx _ o
  · rcases hopen with h | h | h | h <;> simp [h]
  · rcases hopen with h | h | h | h <;> simp [h]

/-! ### Entries and images at the end of a write -/

theorem Entry.endWrite_none {e : Entry} (h : e.intended = none) (v : Option Byte) :
    e.endWrite v = { Entry.reset with base := e.base, hold := e.hold, cal := e.cal } := by
  have hrederive := Entry.rederive_none (e := { e with applied := v, inFlight := none, attempts := 0 }) h
  exact hrederive.trans (by simp only [Entry.reset, h])

theorem Entry.endWrite_some {e : Entry} {i : Byte} (h : e.intended = some i) (v : Option Byte) :
    e.endWrite v = { e with applied := v, inFlight := none, attempts := 0, refusal := none,
                            state := if v = some i then .clean else .dirty } := by
  unfold Entry.endWrite Entry.rederive
  simp only [h]
  split_ifs <;> rfl

/-- The words of R16 for the end of a write. -/
theorem Entry.eq_endWrite {e n : Entry} {v : Option Byte}
    (hnone : e.intended = none → n = { Entry.reset with base := e.base, hold := e.hold, cal := e.cal })
    (hsome : ∀ i, e.intended = some i →
      n = { e with applied := v, inFlight := none, attempts := 0, refusal := none,
                   state := if v = some i then .clean else .dirty }) : n = e.endWrite v := by
  cases hi : e.intended with
  | none => rw [hnone hi, Entry.endWrite_none hi]
  | some i => rw [hsome i hi, Entry.endWrite_some hi]

theorem Image.modify_eq (im : Image) (a : Nat) (f : Entry → Entry) :
    im.modify a f = im.modify a fun _ => f (im.get a) := im.modify_congr rfl

/-- With no entry PENDING no write is cut short. -/
theorem Image.cutShort_eq {im : Image} (hq : im.QueueExact) (hn : ∀ a ∈ addresses, (im.get a).state ≠ .pending) :
    im.cutShort = im := im.mapEntries_id hq fun a ha => if_neg (hn a ha)

/-! ### Faults -/

theorem Lane.fault_eq {L : Lane} (hp : L.purpose = none) (hq : L.image.QueueExact)
    (hn : ∀ a ∈ addresses, (L.image.get a).state ≠ .pending) (l : Fin 16) (tx : Tx) (f : Failure) :
    L.fault l tx f =
      { lane := L.faulted, events := [.linkFault l .active tx.kind tx.addr f], done := [],
        waiters := L.waiters.map fun w =>
          { id := w.id, status := .laneFault, detail := none,
            result := some (resultWord 5 L.image.queue.length 0 0) } } := by
  unfold Lane.fault
  rw [Image.cutShort_eq hq hn]
  simp only [Lane.faulted, Lane.dropAutomatic, Lane.waiterCompletions, syncResult, laneStateCode, hp]

theorem Lane.probeFail_eq (L : Lane) (l : Fin 16) (tx : Tx) (f : Failure) :
    L.probeFail l tx f =
      { lane := { L.faulted with transition := none }, events := [.linkFault l .probing tx.kind tx.addr f],
        done := L.transition.toList.map fun id =>
          { id := id, status := .linkFault, detail := some (.outcome f), result := none },
        waiters := L.waiters.map fun w =>
          { id := w.id, status := .laneFault, detail := none,
            result := some (resultWord 5 L.image.queue.length 0 0) } } := by
  unfold Lane.probeFail
  simp only [Lane.faulted, Lane.dropAutomatic, Lane.waiterCompletions, syncResult, laneStateCode, Lane.transitionDone,
    Option.toList_map]

theorem Lane.fail_active {L : Lane} (h : L.state = .active) (l : Fin 16) (tx : Tx) (f : Failure) :
    L.fail l tx f = L.fault l tx f := by simp only [Lane.fail, h]

theorem Lane.fail_probing {L : Lane} (h : L.state = .probing) (l : Fin 16) (tx : Tx) (f : Failure) :
    L.fail l tx f = L.probeFail l tx f := by simp only [Lane.fail, h]

/-! ### WB and VERIFY -/

theorem Lane.writeVerdict_wb {L : Lane} {x : Nat} (h : (L.image.get x).state = .pending) (l : Fin 16) (v : Byte)
    (o : FrameOutcome) : L.writeVerdict l (.wb x v) o = L.wbVerdict l x v o := if_pos h

theorem Lane.writeVerdict_verify {L : Lane} {x : Nat} (h : (L.image.get x).state = .pending) (l : Fin 16)
    (o : FrameOutcome) : L.writeVerdict l (.verify x) o = L.verifyVerdict l x o := if_pos h

/-- NO_RESPONSE and PARITY of a write's frame (R33, R36). -/
theorem Lane.writeVerdict_failed {L : Lane} {x : Nat} (h : (L.image.get x).state = .pending) (l : Fin 16) {tx : Tx}
    (htx : tx = .verify x ∨ ∃ v, tx = .wb x v) {f : Failure} (hf : f = .noResponse ∨ f = .parity) :
    L.writeVerdict l tx (.failed f) = L.writeFailed x tx := by
  rcases htx with rfl | ⟨v, rfl⟩
  · rw [Lane.writeVerdict_verify h]
    rcases hf with rfl | rfl <;> rfl
  · rw [Lane.writeVerdict_wb h]
    rcases hf with rfl | rfl <;> rfl

/-- An attempt remains (R38). -/
theorem Lane.writeFailed_again {L : Lane} {x : Nat} (h : (L.image.get x).attempts < L.options.retryLimit) (tx : Tx) :
    L.writeFailed x tx = .again tx (L.image.modify x fun _ => (L.image.get x).attempt) :=
  (if_pos h).trans (congrArg _ (L.image.modify_eq x _))

theorem Lane.writeFailed_exhausted {L : Lane} {x : Nat} (h : L.options.retryLimit ≤ (L.image.get x).attempts)
    (tx : Tx) : L.writeFailed x tx = .exhausted (L.image.modify x fun _ => (L.image.get x).endWrite none) :=
  (if_neg (Nat.not_lt.2 h)).trans (congrArg _ (L.image.modify_eq x _))

theorem Lane.takeOutcome_write {L : Lane} {x : Nat} {tx : Tx} (htx : tx = .verify x ∨ ∃ v, tx = .wb x v) (l : Fin 16)
    (stopped : Bool) (o : FrameOutcome) : L.takeOutcome l tx stopped o = L.takeWrite l tx o := by
  rcases htx with rfl | ⟨v, rfl⟩ <;> rfl

theorem Lane.takeWrite_ended {L : Lane} {l : Fin 16} {tx : Tx} {o : FrameOutcome} {im : Image} {es : List Event}
    (h : L.writeVerdict l tx o = .ended im es) :
    L.takeWrite l tx o = { lane := { L with image := im }, events := es, done := [], waiters := [] } := by
  rw [Lane.takeWrite, h]
  rfl

theorem Lane.takeWrite_again {L : Lane} {l : Fin 16} {tx again : Tx} {o : FrameOutcome} {im : Image}
    (h : L.writeVerdict l tx o = .again again im) :
    L.takeWrite l tx o = Lane.out { L with image := im, retryDue := some again } := by
  rw [Lane.takeWrite, h]

/-- The write of an ACTIVE lane fails for good (R57, R58). -/
theorem Lane.takeWrite_exhausted {L : Lane} (hact : L.state = .active) (hp : L.purpose = none) {l : Fin 16} {tx : Tx}
    {f : Failure} {im : Image} (h : L.writeVerdict l tx (.failed f) = .exhausted im) (hq : im.QueueExact)
    (hn : ∀ a ∈ addresses, (im.get a).state ≠ .pending) :
    L.takeWrite l tx (.failed f) =
      { lane := Lane.faulted { L with image := im }, events := [.linkFault l .active tx.kind tx.addr f], done := [],
        waiters := L.waiters.map fun w =>
          { id := w.id, status := .laneFault, detail := none,
            result := some (resultWord 5 im.queue.length 0 0) } } := by
  rw [Lane.takeWrite, h]
  exact (Lane.fail_active (L := { L with image := im }) hact l tx f).trans
    (Lane.fault_eq (L := { L with image := im }) hp hq hn l tx f)

theorem Tx.addr_of_write {x : Nat} {tx : Tx} (htx : tx = .verify x ∨ ∃ v, tx = .wb x v) : tx.addr = x := by
  rcases htx with rfl | ⟨v, rfl⟩ <;> rfl

/-- The outcomes of a WB frame of a PENDING entry (R31, R32, R37). -/
theorem Lane.wbVerdict_done_verify {L : Lane} (h : L.options.verify = true) (l : Fin 16) (x : Nat) (v u : Byte) :
    L.wbVerdict l x v (.done u) = .verifyDue := if_pos h

theorem Lane.wbVerdict_done {L : Lane} (h : L.options.verify = false) (l : Fin 16) (x : Nat) (v u : Byte) :
    L.wbVerdict l x v (.done u) =
      .ended (L.image.modify x fun _ => (L.image.get x).endWrite (L.image.get x).inFlight) [] := by
  have hv : ¬ L.options.verify = true := by simp [h]
  exact (if_neg hv).trans (congrArg (WriteVerdict.ended · []) (L.image.modify_eq x _))

theorem Lane.wbVerdict_nak (L : Lane) (l : Fin 16) (x : Nat) (v : Byte) :
    L.wbVerdict l x v (.failed .nak) =
      .ended (L.image.modify x fun _ => (L.image.get x).endRefused (L.image.get x).applied .nak)
        (refusalEvents l x (L.image.get x) .nak none) :=
  congrArg (WriteVerdict.ended · _) (L.image.modify_eq x _)

/-- The outcomes of a VERIFY frame of a PENDING entry (R34 to R37). -/
theorem Lane.verifyVerdict_match {L : Lane} {x : Nat} {v : Byte} (h : (L.image.get x).inFlight = some v) (l : Fin 16) :
    L.verifyVerdict l x (.done v) =
      .ended (L.image.modify x fun _ => (L.image.get x).endWrite (L.image.get x).inFlight) [] :=
  (if_pos h).trans (congrArg (WriteVerdict.ended · []) (L.image.modify_eq x _))

theorem Lane.verifyVerdict_again {L : Lane} {x : Nat} {v : Byte} (h : (L.image.get x).inFlight ≠ some v)
    (ha : (L.image.get x).attempts < L.options.retryLimit) (l : Fin 16) :
    L.verifyVerdict l x (.done v) =
      .again (.wb x ((L.image.get x).inFlight.getD 0)) (L.image.modify x fun _ => (L.image.get x).attempt) :=
  (if_neg h).trans ((if_pos ha).trans (congrArg _ (L.image.modify_eq x _)))

theorem Lane.verifyVerdict_mismatch {L : Lane} {x : Nat} {v : Byte} (h : (L.image.get x).inFlight ≠ some v)
    (ha : L.options.retryLimit ≤ (L.image.get x).attempts) (l : Fin 16) :
    L.verifyVerdict l x (.done v) =
      .ended (L.image.modify x fun _ => (L.image.get x).endRefused (some v) .mismatch)
        (refusalEvents l x (L.image.get x) .mismatch (some v)) :=
  (if_neg h).trans ((if_neg (Nat.not_lt.2 ha)).trans (congrArg (WriteVerdict.ended · _) (L.image.modify_eq x _)))

theorem Lane.verifyVerdict_nak (L : Lane) (l : Fin 16) (x : Nat) :
    L.verifyVerdict l x (.failed .nak) =
      .ended (L.image.modify x fun _ => (L.image.get x).endRefused none .nak)
        (refusalEvents l x (L.image.get x) .nak none) :=
  congrArg (WriteVerdict.ended · _) (L.image.modify_eq x _)

/-- Once the lane's one write has ended, no entry is PENDING. -/
theorem Image.modify_none_pending {im : Image} {x : Nat} (hone : ∀ b ∈ addresses, (im.get b).state = .pending → b = x)
    {e : Entry} (he : e.state ≠ .pending) : ∀ b ∈ addresses, ((im.modify x fun _ => e).get b).state ≠ .pending := by
  intro b hb hp
  by_cases hbx : b = x
  · subst hbx
    rw [Image.get_modify_self im _ hb] at hp
    exact he hp
  · rw [Image.get_modify_ne im _ hbx] at hp
    exact hbx (hone b hb hp)

/-- Settles O55: the verdict on the frame, and what the lane makes of it. -/
theorem writeFrameEnds : Obligations.WriteFrameEnds := by
  unfold Obligations.WriteFrameEnds
  intro s p l L tx ans o x e ended refused told put hL hact hpurpose hx he hpend hone hq hE hended hrefused htold hput
  have hpend' : (L.image.get x).state = .pending := he ▸ hpend
  have hended (v : Option Byte) : ended v = e.endWrite v := by
    refine Entry.eq_endWrite (fun hi => ?_) fun i hi => ?_
    · rw [hended, hi]
    · rw [hended, hi]
  have hrefused (v : Option Byte) (r : RefusalReason) : refused v r = e.endRefused v r := by
    rw [hrefused, Entry.endRefused, hended]
  have htold (r : RefusalReason) (v : Option Byte) : told r v = refusalEvents l x e r v := htold r v
  have taken {tx' : Tx} (htx : tx' = .verify x ∨ ∃ v, tx' = .wb x v) (hEnds : Ending s p l tx' ans o) {out : LaneOut}
      (hout : L.takeWrite l tx' o = out) :
      exec (.frameEnd p ans) s = .next (s.frameLeft p l out.lane out.events out.done out.waiters).release :=
    exec_frameEnd_open hEnds hL (.inr (.inl hact)) ((Lane.takeOutcome_write htx l _ o).trans hout)
  refine ⟨?_, ?_, ?_, ?_, ?_⟩
  · rintro v u rfl rfl
    refine ⟨fun hv => ?_, fun hv => ?_⟩
    · refine taken (.inr ⟨v, rfl⟩) hE (out := Lane.out { L with verifyDue := true }) ?_
      rw [Lane.takeWrite, Lane.writeVerdict_wb hpend', Lane.wbVerdict_done_verify hv]
    · have hverdict := (Lane.writeVerdict_wb hpend' l v (.done u)).trans (Lane.wbVerdict_done hv l x v u)
      rw [hput, hended, he]
      exact taken (.inr ⟨v, rfl⟩) hE (Lane.takeWrite_ended hverdict)
  · rintro v rfl rfl
    have hverdict := (Lane.writeVerdict_wb hpend' l v (.failed .nak)).trans (L.wbVerdict_nak l x v)
    rw [hput, hrefused, htold, he]
    exact taken (.inr ⟨v, rfl⟩) hE (Lane.takeWrite_ended hverdict)
  · rintro rfl v rfl
    have hverdict := Lane.writeVerdict_verify hpend' l (.done v)
    rw [he]
    refine ⟨fun hv => ?_, fun hv ha => ?_, fun hv ha => ?_⟩
    · rw [hput, hended, he]
      exact taken (.inl rfl) hE (Lane.takeWrite_ended (hverdict.trans (Lane.verifyVerdict_match hv l)))
    · rw [hput]
      exact taken (.inl rfl) hE (Lane.takeWrite_again (hverdict.trans (Lane.verifyVerdict_again hv ha l)))
    · rw [hput, hrefused, htold, he]
      exact taken (.inl rfl) hE (Lane.takeWrite_ended (hverdict.trans (Lane.verifyVerdict_mismatch hv ha l)))
  · rintro rfl rfl
    have hverdict := (Lane.writeVerdict_verify hpend' l (.failed .nak)).trans (L.verifyVerdict_nak l x)
    rw [hput, hrefused, htold, he]
    exact taken (.inl rfl) hE (Lane.takeWrite_ended hverdict)
  · rintro f htx hf rfl
    have hverdict := Lane.writeVerdict_failed hpend' l htx hf
    rw [he]
    refine ⟨fun ha => ?_, fun ha => ?_⟩
    · rw [hput]
      exact taken htx hE (Lane.takeWrite_again (hverdict.trans (Lane.writeFailed_again ha tx)))
    · have hfault := Lane.takeWrite_exhausted hact hpurpose (hverdict.trans (Lane.writeFailed_exhausted ha tx))
        (hq.mapEntries _) (Image.modify_none_pending hone (Entry.endWrite_not_pending _ none))
      rw [Tx.addr_of_write htx] at hfault
      rw [hput, hended, he]
      exact taken htx hE hfault

end Sys2Proof.Machine
end

section
/-! PROOF. CHECK, ACK and POLL frames: probe and restart (R50 to R57), and the outcomes of a poll round (R94 to
R104). -/

namespace Sys2Proof.Machine

theorem Lane.retryOrFail_again {L : Lane} {f : Failure} (hf : f ≠ .nak) (h : L.retryCount < L.options.retryLimit)
    (l : Fin 16) (tx : Tx) :
    L.retryOrFail l tx f = Lane.out { L with retryDue := some tx, retryCount := L.retryCount + 1 } :=
  if_pos ⟨hf, h⟩

theorem Lane.retryOrFail_fails {L : Lane} {f : Failure} (h : f = .nak ∨ L.options.retryLimit ≤ L.retryCount)
    (l : Fin 16) (tx : Tx) : L.retryOrFail l tx f = L.fail l tx f :=
  if_neg fun hr => h.elim hr.1 (Nat.not_le.2 hr.2)

/-- A round with no POLL in flight and no retry due is over once no ACTIVE watch stands above its position
(R94). -/
theorem Lane.settleRound_polling {L : Lane} {q : Option (Fin 8)} (h : L.round = some (.polling q))
    (hr : L.retryDue = none) :
    L.settleRound none =
      { L with round := if ∃ i : Fin 8, (∀ j ∈ q, j < i) ∧ L.watches[i].state = .active then some (.polling q)
          else none } := by
  have hgoes : L.RoundGoesOn none ↔ ∃ i : Fin 8, (∀ j ∈ q, j < i) ∧ L.watches[i].state = .active := by
    simp [Lane.RoundGoesOn, Lane.PollOf, h, hr]
  obtain ⟨hstay, hover⟩ := L.settleRound_spec none
  by_cases hg : L.RoundGoesOn none
  · rw [hstay hg, if_pos (hgoes.1 hg), ← h]
  · rw [hover hg, if_neg fun ha => hg (hgoes.2 ha)]

/-- Restart handling by its fields (R54). -/
theorem Lane.restart_eq (L : Lane) (l : Fin 16) :
    L.restart l =
      { lane := { L with restartCount := min (L.restartCount + 1) 255, image := L.image.rebuild, ackDue := true },
        events := [.chipRestart l (min (L.restartCount + 1) 255) L.state L.image.rebuild.queue.length],
        done := [], waiters := [] } := rfl

theorem Lane.probeEnd_done (L : Lane) (found : Bool) :
    (L.probeEnd found).done = L.transition.toList.map fun id =>
      { id := id, status := .ok, detail := none, result := probeResult L.purpose found L.restartCount } := by
  simp only [Lane.probeEnd, Lane.transitionDone, Option.toList_map]

theorem Lane.takeOutcome_checkAck {L : Lane} {tx : Tx} (htx : tx = .check ∨ tx = .ack) (l : Fin 16) (stopped : Bool)
    (f : Failure) : L.takeOutcome l tx stopped (.failed f) = L.retryOrFail l tx f := by
  rcases htx with rfl | rfl <;> rfl

theorem Tx.addr_of_checkAck {tx : Tx} (htx : tx = .check ∨ tx = .ack) : tx.addr = 0 := by
  rcases htx with rfl | rfl <;> rfl

/-- Settles O56: the CHECK's value and the ACK by the state of the lane, and their failures. -/
theorem probeAndRestart : Obligations.ProbeAndRestart := by
  unfold Obligations.ProbeAndRestart
  intro s p l L M tx ans o probed checked count hL hretry hq hnone hE hprobed hchecked hcount hM
  have hprobed (found : Bool) : probed found = L.transition.toList.map fun id =>
      { id := id, status := .ok, detail := none, result := probeResult L.purpose found L.restartCount } := by
    rw [hprobed]
    rcases L.purpose with _ | _ | _ <;> rfl
  subst hcount
  refine ⟨fun hst => ?_, fun hst hpurpose => ?_⟩
  · have taken {tx' : Tx} (hEnds : Ending s p l tx' ans o) {out : LaneOut}
        (hout : L.takeOutcome l tx' (s.directStopped l) o = out) :
        exec (.frameEnd p ans) s = .next (s.frameLeft p l out.lane out.events out.done out.waiters).release :=
      exec_frameEnd_open hEnds hL (.inl hst) hout
    refine ⟨?_, ?_, ?_, ?_, ?_⟩
    · rintro v rfl rfl hv
      have hout : L.takeOutcome l .check (s.directStopped l) (.done v) =
          Lane.probeEnd { L with checkDue := false } false :=
        (Lane.takeCheck_probing hst l v).trans (if_neg (Bool.eq_false_iff.1 hv))
      rw [hprobed, ← Lane.probeEnd_done { L with checkDue := false }]
      exact taken hE hout
    · rintro v rfl rfl hv hp
      have hout : L.takeOutcome l .check (s.directStopped l) (.done v) =
          Lane.out { L with checkDue := false, ackDue := true } :=
        (Lane.takeCheck_probing hst l v).trans ((if_pos hv).trans (if_neg (by simp [hp])))
      exact taken hE hout
    · rintro v rfl rfl hv hp
      have hout : L.takeOutcome l .check (s.directStopped l) (.done v) = Lane.restart l { L with checkDue := false } :=
        (Lane.takeCheck_probing hst l v).trans ((if_pos hv).trans (if_pos hp))
      rw [hM, ← hst]
      exact taken hE hout
    · rintro v rfl rfl
      have hout : L.takeOutcome l .ack (s.directStopped l) (.done v) = Lane.probeEnd { L with ackDue := false } true :=
        if_pos hst
      rw [hprobed, ← Lane.probeEnd_done { L with ackDue := false }]
      exact taken hE hout
    · rintro f htx rfl
      have hfail := Lane.takeOutcome_checkAck (L := L) htx l (s.directStopped l) f
      refine ⟨fun hf hr => ?_, fun hf => ?_⟩
      · exact taken hE (hfail.trans (Lane.retryOrFail_again hf hr l tx))
      · have hout := (Lane.retryOrFail_fails hf l tx).trans ((Lane.fail_probing hst l tx f).trans (L.probeFail_eq l tx f))
        rw [Tx.addr_of_checkAck htx] at hout
        exact taken hE (hfail.trans hout)
  · have taken {tx' : Tx} (hEnds : Ending s p l tx' ans o) {out : LaneOut}
        (hout : L.takeOutcome l tx' (s.directStopped l) o = out) :
        exec (.frameEnd p ans) s = .next (s.frameLeft p l out.lane out.events out.done out.waiters).release :=
      exec_frameEnd_open hEnds hL (.inr (.inl hst)) hout
    have hround (hr : L.round = some .atCheck) :
        Lane.settleRound { L with checkDue := false, round := checkTaken L.round } none =
          { L with checkDue := false, round := checked } := by
      have hsettle := Lane.settleRound_polling (L := { L with checkDue := false, round := checkTaken L.round })
        (q := none) (by rw [hr]; rfl) hretry
      rw [hsettle, hchecked]
      simp
    refine ⟨?_, ?_, ?_, ?_⟩
    · rintro v rfl hr rfl hv
      have hout : L.takeOutcome l .check (s.directStopped l) (.done v) =
          Lane.out { L with checkDue := false, round := checked } :=
        (Lane.takeCheck_active hst l v).trans ((if_neg (Bool.eq_false_iff.1 hv)).trans (by rw [hround hr]))
      exact taken hE hout
    · rintro v rfl hr rfl hv
      have hout : L.takeOutcome l .check (s.directStopped l) (.done v) =
          Lane.restart l { L with checkDue := false, round := checked } :=
        (Lane.takeCheck_active hst l v).trans ((if_pos hv).trans (by rw [hround hr]))
      rw [hM, ← hst]
      exact taken hE hout
    · rintro v rfl rfl
      have hout : L.takeOutcome l .ack (s.directStopped l) (.done v) = Lane.out { L with ackDue := false } :=
        if_neg (by simp [hst])
      exact taken hE hout
    · rintro f htx rfl
      have hfail := Lane.takeOutcome_checkAck (L := L) htx l (s.directStopped l) f
      refine ⟨fun hf hr => ?_, fun hf => ?_⟩
      · exact taken hE (hfail.trans (Lane.retryOrFail_again hf hr l tx))
      · have hout := (Lane.retryOrFail_fails hf l tx).trans
          ((Lane.fail_active hst l tx f).trans (Lane.fault_eq hpurpose hq hnone l tx f))
        rw [Tx.addr_of_checkAck htx] at hout
        exact taken hE (hfail.trans hout)

/-! ### POLL -/

/-- The round's position moves to watch `i`, and the round is over with no ACTIVE watch above it (R94, R95). -/
theorem Lane.movePosition_eq {L : Lane} {q : Option (Fin 8)} (h : L.round = some (.polling q)) (hr : L.retryDue = none)
    (i : Fin 8) :
    L.movePosition i =
      { L with round := if ∃ j : Fin 8, i < j ∧ L.watches[j].state = .active then some (.polling (some i)) else none,
               stalePoll := false } := by
  have hsettle := Lane.settleRound_polling
    (L := { L with round := L.round.map fun _ => .polling (some i), stalePoll := false }) (q := some i)
    (by rw [h]; rfl) hr
  refine hsettle.trans ?_
  simp only [Option.mem_some_iff, forall_eq']

theorem flagEvent_eq (l : Fin 16) (i : Fin 8) (a : Nat) (v : Byte) (f : WatchFlag) (old new : Bool) :
    flagEvent l i a v f old new =
      (if old = new then none
        else some (if new then Event.watchRaise l i a f v else .watchFall l i a f v)).toList := by
  cases old <;> cases new <;> rfl

/-- The events of a comparison, flag by flag (R100). -/
theorem flagEvents_eq (l : Fin 16) (i : Fin 8) (w : Watch) (v : Byte) (n : Flags) :
    flagEvents l i w v n =
      if w.eventEnable then
        [(WatchFlag.al, w.flags.al, n.al), (WatchFlag.ah, w.flags.ah, n.ah),
         (WatchFlag.wl, w.flags.wl, n.wl), (WatchFlag.wh, w.flags.wh, n.wh)].filterMap
          fun c => if c.2.1 = c.2.2 then none
            else some (if c.2.2 then .watchRaise l i w.address c.1 v else .watchFall l i w.address c.1 v)
      else [] := by
  simp only [flagEvents, flagEvent_eq, List.filterMap_eq_flatMap_toList, List.flatMap_cons, List.flatMap_nil,
    List.append_nil, List.append_assoc]

theorem Lane.handOff_finishes (l : Fin 16) (L : Lane) (v : Byte) :
    (L.handOff l v).done = [] ∧ (L.handOff l v).waiters = [] := by
  by_cases h : L.ReadingMoves v.toInt
  · rw [Lane.handOff_of_moves h]; exact ⟨rfl, rfl⟩
  · rw [Lane.handOff_of_not_moves h]; exact ⟨rfl, rfl⟩

/-- A POLL whose outcome is taken: the watch's part, and then the round's position (R95). -/
theorem Lane.takePoll_taken {o : FrameOutcome} (ho : o = .failed .nak ∨ ∃ v, o = .done v) (l : Fin 16) (L : Lane)
    (i : Fin 8) (x : Nat) :
    L.takePoll l i x o = { L.pollEffect l i o with lane := (L.pollEffect l i o).lane.movePosition i } := by
  rcases ho with rfl | ⟨v, rfl⟩ <;> rfl

theorem Lane.takePoll_failed {f : Failure} (hf : f = .noResponse ∨ f = .parity) (l : Fin 16) (L : Lane) (i : Fin 8)
    (x : Nat) : L.takePoll l i x (.failed f) = L.retryOrFail l (.poll i x) f := by
  rcases hf with rfl | rfl <;> rfl

theorem Lane.pollEffect_stale {L : Lane} (h : L.stalePoll = true) (l : Fin 16) (i : Fin 8) (o : FrameOutcome) :
    L.pollEffect l i o = L.out := if_pos h

theorem Lane.pollEffect_done {L : Lane} (h : L.stalePoll = false) (l : Fin 16) (i : Fin 8) (v : Byte) :
    L.pollEffect l i (.done v) = L.takeReading l i v := if_neg (Bool.eq_false_iff.1 h)

theorem Lane.pollEffect_nak {L : Lane} (h : L.stalePoll = false) (l : Fin 16) (i : Fin 8) :
    L.pollEffect l i (.failed .nak) = L.suspendWatch l i := if_neg (Bool.eq_false_iff.1 h)

/-- Settles O57: the outcome that is taken, stale or not, and the one that is repeated or faults the lane. -/
theorem pollFrameEnds : Obligations.PollFrameEnds := by
  unfold Obligations.PollFrameEnds
  rintro s p l L i x ans o w left hL hact hpurpose hretry hq hnone ⟨q, hround⟩ hE hw hleft
  have taken {out : LaneOut} (hout : L.takePoll l i x o = out) :
      exec (.frameEnd p ans) s = .next (s.frameLeft p l out.lane out.events out.done out.waiters).release :=
    exec_frameEnd_open hE hL (.inr (.inl hact)) hout
  have moved (M : Lane) (hMround : M.round = L.round) (hMretry : M.retryDue = L.retryDue) :
      M.movePosition i = { M with round := left M.watches, stalePoll := false } := by
    rw [Lane.movePosition_eq (hMround.trans hround) (hMretry.trans hretry), hleft]
  refine ⟨fun hstale ho => ?_, ?_, ?_, ?_⟩
  · have hout := Lane.takePoll_taken ho l L i x
    rw [Lane.pollEffect_stale hstale, moved L.out.lane rfl rfl] at hout
    exact taken hout
  · rintro hstale v n ws out rfl hn hws hout'
    have hout := Lane.takePoll_taken (.inr ⟨v, rfl⟩) l L i x
    rw [Lane.pollEffect_done hstale] at hout
    subst hw hn hws
    have hread : L.takeReading l i v =
        { out with events := flagEvents l i L.watches[i] v (L.watches[i].compare L.options v).flags ++ out.events } := by
      rw [hout', Lane.takeReading]
      split_ifs
      · rfl
      · simp [Lane.out]
    have hfields : out.lane.round = L.round ∧ out.lane.retryDue = L.retryDue ∧
        out.lane.watches = L.watches.set i (L.watches[i].compare L.options v) ∧ out.done = [] ∧ out.waiters = [] := by
      rw [hout']
      split_ifs
      · obtain ⟨hdone, hwaiters⟩ := Lane.handOff_finishes l
          { L with watches := L.watches.set i (L.watches[i].compare L.options v) } v
        rw [Lane.handOff_frame]
        exact ⟨rfl, rfl, rfl, hdone, hwaiters⟩
      · exact ⟨rfl, rfl, rfl, rfl, rfl⟩
    obtain ⟨hr, hdue, hwatches, hdone, hwaiters⟩ := hfields
    rw [hread, moved out.lane hr hdue, flagEvents_eq] at hout
    have hnext := taken hout
    rw [hdone, hwaiters] at hnext
    rw [← hwatches]
    exact hnext
  · rintro hstale rfl
    have hout := Lane.takePoll_taken (.inl rfl) l L i x
    have hlane : (L.suspendWatch l i).lane.movePosition i =
        { L with watches := L.watches.set i { L.watches[i] with state := .suspended },
                 round := left (L.watches.set i { L.watches[i] with state := .suspended }) } :=
      (moved (L.suspendWatch l i).lane rfl rfl).trans (by simp only [Lane.suspendWatch, Lane.out, hstale])
    rw [Lane.pollEffect_nak hstale, hlane] at hout
    rw [hw]
    exact taken hout
  · rintro f hf rfl
    have hfail := Lane.takePoll_failed hf l L i x
    have hnak : f ≠ .nak := by rcases hf with rfl | rfl <;> simp
    refine ⟨fun hr => taken (hfail.trans (Lane.retryOrFail_again hnak hr l _)), fun hr => ?_⟩
    exact taken (hfail.trans ((Lane.retryOrFail_fails (.inr hr) l _).trans
      ((Lane.fail_active hact l _ f).trans (Lane.fault_eq hpurpose hq hnone l _ f))))

end Sys2Proof.Machine
end

section
/-! PROOF. The end of a direct request's frame (R85, R87 to R89). -/

namespace Sys2Proof.Machine

theorem directResult_eq (v : Option Byte) (n : Nat) (e : Entry) :
    directResult v n e =
      resultWord (v.getD 0).toNat n (if e.intended = none then 0xFF else entryStateCode e.state) v.isSome.toNat := by
  have hvalue : orZero v = (v.getD 0).toNat := by cases v <;> rfl
  have hpresent : presentBit v = v.isSome.toNat := by cases v <;> rfl
  have hstate : directStateByte e = if e.intended = none then 0xFF else entryStateCode e.state := by
    unfold directStateByte
    cases e.intended <;> simp
  rw [directResult, hvalue, hpresent, hstate]

/-- What a direct outcome shows of a managed entry that is not PENDING (R14). -/
theorem Entry.learn_settled {e : Entry} {v : Option Byte} (hp : e.state ≠ .pending)
    (hu : e.state = .unmanaged → e.intended = none) (hi : e.intended ≠ none) (ha : e.applied ≠ v) :
    e.learn v =
      if e.intended = v then { e with applied := v, state := .clean, refusal := none }
      else if e.state = .clean ∨ e.state = .dirty then { e with applied := v, state := .dirty, refusal := none }
      else if e.state = .refused then { e with applied := v }
      else e := by
  have hrederive : Entry.rederive { e with applied := v } =
      if e.intended = v then { e with applied := v, state := .clean, refusal := none }
      else { e with applied := v, state := .dirty, refusal := none } := by
    by_cases hv : e.intended = v
    · rw [if_pos hv]
      exact Entry.rederive_clean (e := { e with applied := v }) hi hv.symm
    · rw [if_neg hv]
      exact Entry.rederive_dirty (e := { e with applied := v }) hi (Ne.symm hv)
  rw [Entry.learn_of hi ha]
  cases hs : e.state with
  | unmanaged => exact absurd (hu hs) hi
  | pending => exact absurd hs hp
  | clean => rw [hs] at hrederive; simp [hrederive]
  | dirty => rw [hs] at hrederive; simp [hrederive]
  | refused => simp

/-- The lane's part of a direct request that ends (R85, R87). -/
theorem Lane.takeDirect_ends {L : Lane} {d : DirectReq} {rest : List DirectReq} (h : L.directs = d :: rest)
    {stopped : Bool} {o : FrameOutcome} (hr : L.directRetries d stopped o = false) :
    L.takeDirect stopped o =
      { lane := { L with directs := rest, image := d.image o L.image }, events := [],
        done := [{ id := d.id, status := (directStatus stopped o).1, detail := (directStatus stopped o).2,
                   result := some (directResult (d.readValue o) d.retries ((d.image o L.image).get d.addr)) }],
        waiters := [] } := by
  rw [Lane.takeDirect, h]
  simp only [hr]
  rfl

theorem Lane.takeDirect_retries {L : Lane} {d : DirectReq} {rest : List DirectReq} (h : L.directs = d :: rest)
    {stopped : Bool} {o : FrameOutcome} (hr : L.directRetries d stopped o = true) :
    L.takeDirect stopped o =
      Lane.out { L with directs := { d with retries := d.retries + 1 } :: rest,
                        retryDue := if L.state = .probing then none else some d.tx } := by
  rw [Lane.takeDirect, h]
  simp only [hr]
  rfl

theorem Lane.directRetries_failed {f : Failure} (hf : f = .noResponse ∨ f = .parity) (L : Lane) (d : DirectReq)
    (stopped : Bool) :
    L.directRetries d stopped (.failed f) = (!stopped && decide (d.retries < L.options.retryLimit)) := by
  rcases hf with rfl | rfl <;> rfl

/-- Settles O58: a repetition, or the request's end with what it shows of its entry. -/
theorem directFrameEnds : Obligations.DirectFrameEnds := by
  unfold Obligations.DirectFrameEnds
  intro s p l L d rest tx ans o stopped learned ends hL hst hd htx hE hstopped hnone hlearned hunmanaged hends
  have hdtx : d.tx = tx := htx.symm
  have hlearn (v : Option Byte) : L.image.modify d.addr (Entry.learn v) = learned v := by
    rw [hlearned]
    refine L.image.mapEntries_congr fun a ha => ?_
    by_cases hne : a = d.addr
    · by_cases hstay : (L.image.get a).intended = none ∨ (L.image.get a).applied = v
      · rw [if_pos hne, if_pos (.inr hstay), Entry.learn_nothing hstay]
      · obtain ⟨hi, happ⟩ := not_or.1 hstay
        have hchanges : ¬ (a ≠ d.addr ∨ (L.image.get a).intended = none ∨ (L.image.get a).applied = v) :=
          fun h => h.elim (fun h => h hne) hstay
        rw [if_pos hne, if_neg hchanges, Entry.learn_settled (hnone a ha) (hunmanaged a ha) hi happ]
    · rw [if_neg hne, if_pos (.inl hne)]
  have hds : s.directStopped l = stopped := by
    rw [hstopped, State.directStopped, ← hL, hd]
  have taken {out : LaneOut} (hout : L.takeDirect stopped o = out) :
      exec (.frameEnd p ans) s = .next (s.frameLeft p l out.lane out.events out.done out.waiters).release := by
    refine exec_frameEnd_open hE hL hst ?_
    rw [hds, ← hout, htx]
    cases d.value <;> rfl
  have ended (hr : L.directRetries d stopped o = false) (st : Status) (detail : Option Detail)
      (hsd : directStatus stopped o = if stopped then (.aborted, none) else (st, detail)) :
      exec (.frameEnd p ans) s = ends (d.image o L.image) st detail (d.readValue o) := by
    have hstatus : (directStatus stopped o).1 = if stopped then .aborted else st := by
      rw [hsd]; cases stopped <;> rfl
    have hdetail : (directStatus stopped o).2 = if stopped then none else detail := by
      rw [hsd]; cases stopped <;> rfl
    have hnext := taken (Lane.takeDirect_ends hd hr)
    rw [hstatus, hdetail, directResult_eq] at hnext
    rw [hends]
    exact hnext
  refine ⟨?_, ?_, ?_⟩
  · rintro v rfl
    refine ⟨fun hv => ?_, fun u hv => ?_⟩
    · have himage : d.image (.done v) L.image = learned (some v) := by
        simp [← hlearn, DirectReq.image, hv]
      have hread : d.readValue (.done v) = some v := by simp [DirectReq.readValue, hv]
      rw [← himage, ← hread]
      exact ended rfl .ok none rfl
    · have himage : d.image (.done v) L.image = learned (some u) := by
        simp [← hlearn, DirectReq.image, hv]
      have hread : d.readValue (.done v) = none := by simp [DirectReq.readValue, hv]
      rw [← himage, ← hread]
      exact ended rfl .ok none rfl
  · rintro rfl
    exact ended rfl .nak none rfl
  · rintro f hf rfl
    have hretries := Lane.directRetries_failed hf L d stopped
    refine ⟨fun hs hr => ?_, fun hover => ?_⟩
    · rw [← hdtx]
      exact taken (Lane.takeDirect_retries hd (hretries.trans (by simp [hs, hr])))
    · have hend : L.directRetries d stopped (.failed f) = false := by
        rw [hretries]
        rcases hover with hs | hr
        · simp [hs]
        · simp [Nat.not_lt.2 hr]
      have hsd : directStatus stopped (.failed f) =
          if stopped then (.aborted, none) else (.linkFault, some (.outcome f)) := by
        rcases hf with rfl | rfl <;> rfl
      refine ⟨fun hv => ?_, fun hv => ?_⟩
      · have himage : d.image (.failed f) L.image = L.image := by
          rcases hf with rfl | rfl <;> simp [DirectReq.image, hv]
        have hnext := ended hend _ _ hsd
        rw [himage] at hnext
        exact hnext
      · obtain ⟨u, hu⟩ := Option.ne_none_iff_exists'.1 hv
        have himage : d.image (.failed f) L.image = learned none := by
          rw [← hlearn]
          rcases hf with rfl | rfl <;> simp [DirectReq.image, hu]
        rw [← himage]
        exact ended hend _ _ hsd

end Sys2Proof.Machine
end

section
/-! PROOF. The last frame of a lane that is QUIESCING or DETACHING, and frames in RESETTING (R60, R64, R82). -/

namespace Sys2Proof.Machine

/-- A lane that is not ACTIVE is not in sync, and its SYNC waiters stay (R46). -/
theorem LaneOut.settleSync_of_not_active {out : LaneOut} (h : out.lane.state ≠ .active) : out.settleSync = out := by
  have hsync : ¬ out.lane.inSync = true := by simp [Lane.inSync, h]
  exact if_neg hsync

/-- The end of a QUIESCING lane's frame, from what it makes of the outcome (R60). -/
theorem Lane.quiesceEnd_of {L : Lane} {l : Fin 16} {tx : Tx} {stopped : Bool} {o : FrameOutcome} {out : LaneOut}
    {short : Option Nat} {failure : Option (TxKind × Failure)}
    (h : L.quiesceOutcome l tx stopped o = (out, short, failure)) :
    L.quiesceEnd l tx stopped o =
      { lane := { out.lane with state := .quiesced, transition := none, retryCount := 0, stalePoll := false },
        events := out.events,
        done := out.done ++ L.transition.toList.map fun id =>
          { id := id, status := .ok, detail := none, result := some (quiesceResult short failure) },
        waiters := out.waiters } := by
  rw [Lane.quiesceEnd, h]
  simp only [Lane.transitionDone, Option.toList_map]

theorem Lane.pollEffect_waiters (l : Fin 16) (L : Lane) (i : Fin 8) (o : FrameOutcome) :
    (L.pollEffect l i o).waiters = [] := by
  unfold Lane.pollEffect
  split_ifs
  · rfl
  rcases o with v | _ | _ | _
  · simp only [Lane.takeReading]
    split_ifs
    · exact (Lane.handOff_finishes l _ v).2
    · rfl
  · rfl
  · rfl
  · rfl

theorem Lane.takeDirect_waiters (L : Lane) (stopped : Bool) (o : FrameOutcome) :
    (L.takeDirect stopped o).waiters = [] := by
  unfold Lane.takeDirect
  cases L.directs with
  | nil => rfl
  | cons d rest => simp only; split_ifs <;> rfl

theorem Lane.pollEffect_failed {f : Failure} (hf : f = .noResponse ∨ f = .parity) (l : Fin 16) (L : Lane) (i : Fin 8) :
    L.pollEffect l i (.failed f) = L.out := by
  rcases hf with rfl | rfl <;> exact ite_self _

/-! What a QUIESCING lane makes of the verdict on its write (R40). -/

section
variable {L : Lane} {x : Nat} {l : Fin 16} {tx : Tx} {o : FrameOutcome}

theorem Lane.quiesceOutcome_verifyDue (htx : tx = .verify x ∨ ∃ v, tx = .wb x v)
    (h : L.writeVerdict l tx o = .verifyDue) (stopped : Bool) :
    L.quiesceOutcome l tx stopped o =
      (Lane.out { L with image := L.image.modify x (Entry.endWrite none) }, some x, none) := by
  rcases htx with rfl | ⟨v, rfl⟩ <;> simp only [Lane.quiesceOutcome, h]

theorem Lane.quiesceOutcome_again (htx : tx = .verify x ∨ ∃ v, tx = .wb x v) {again : Tx} {im : Image}
    (h : L.writeVerdict l tx o = .again again im) (stopped : Bool) :
    L.quiesceOutcome l tx stopped o =
      (Lane.out { L with image := im.modify x (Entry.endWrite none) }, some x, o.failure.map fun f => (tx.kind, f)) := by
  rcases htx with rfl | ⟨v, rfl⟩ <;> simp only [Lane.quiesceOutcome, h]

theorem Lane.quiesceOutcome_ended (htx : tx = .verify x ∨ ∃ v, tx = .wb x v) {im : Image} {es : List Event}
    (h : L.writeVerdict l tx o = .ended im es) (stopped : Bool) :
    L.quiesceOutcome l tx stopped o = (Lane.out { L with image := im }, none, none) := by
  rcases htx with rfl | ⟨v, rfl⟩ <;> simp only [Lane.quiesceOutcome, h]

theorem Lane.quiesceOutcome_exhausted (htx : tx = .verify x ∨ ∃ v, tx = .wb x v) {im : Image}
    (h : L.writeVerdict l tx o = .exhausted im) (stopped : Bool) :
    L.quiesceOutcome l tx stopped o =
      (Lane.out { L with image := im }, none, o.failure.map fun f => (tx.kind, f)) := by
  rcases htx with rfl | ⟨v, rfl⟩ <;> simp only [Lane.quiesceOutcome, h]

end

/-- An attempt counted and then the write cut short: the write cut short. -/
theorem Image.endWrite_attempt {im : Image} (hq : im.QueueExact) {x : Nat} :
    (im.modify x fun _ => (im.get x).attempt).modify x (Entry.endWrite none) =
      im.modify x fun _ => (im.get x).endWrite none := by
  rw [← Image.modify_eq im x Entry.attempt, ← Image.modify_eq im x (Entry.endWrite none)]
  have hdirty : ∀ a ∈ addresses,
      ((if a = x then (im.get a).attempt else im.get a).state = .dirty ↔ (im.get a).state = .dirty) := by
    intro a _
    split_ifs <;> exact Iff.rfl
  refine (im.mapEntries_mapEntries hq _ _ hdirty).trans (im.mapEntries_congr fun a _ => ?_)
  split_ifs <;> rfl

/-- Settles O59: RESETTING, DETACHING, and QUIESCING by the kind of the transaction. -/
theorem lastFrameEnds : Obligations.LastFrameEnds := by
  unfold Obligations.LastFrameEnds
  intro s p l L tx ans o kind outcome ends hL hframe
  refine ⟨fun hdev => ?_, fun hE hst => ?_, fun hE hst hends hcodes => ?_⟩
  · change execFrameEnd p ans s = _
    unfold execFrameEnd
    rw [hframe]
    exact if_pos hdev
  · have hout : s.lanes[l].frameEnd l tx (s.directStopped l) o = L.detachEnd.settleSync := by
      rw [← hL, Lane.frameEnd_detaching hst,
        LaneOut.settleSync_of_not_active (show L.detachEnd.lane.state ≠ .active by simp [Lane.detachEnd, Lane.out, Lane.reset])]
    have hdone : L.detachEnd.done = L.transition.toList.map fun id =>
        { id := id, status := .ok, detail := none, result := none } := by
      simp only [Lane.detachEnd, Lane.transitionDone, Option.toList_map]
    rw [← hdone]
    exact exec_frameEnd_settled hE hout
  have ended {tx' : Tx} (hEnds : Ending s p l tx' ans o) {out : LaneOut} {short : Option Nat}
      {failure : Option (TxKind × Failure)} (hwaiters : out.waiters = [])
      (h : L.quiesceOutcome l tx' (s.directStopped l) o = (out, short, failure)) :
      exec (.frameEnd p ans) s = ends out short ((failure.map fun x => txKindCode x.1).getD 0xFF)
        ((failure.map fun x => failureCode x.2).getD 0) := by
    have hend := Lane.quiesceEnd_of h
    have hout : s.lanes[l].frameEnd l tx' (s.directStopped l) o = (L.quiesceEnd l tx' (s.directStopped l) o).settleSync := by
      rw [← hL, Lane.frameEnd_quiescing hst, LaneOut.settleSync_of_not_active (by rw [hend]; simp)]
    have hnext := exec_frameEnd_settled hEnds hout
    rw [hend, hwaiters] at hnext
    rw [hends]
    exact hnext
  have hkind : ((o.failure.map fun f => (tx.kind, f)).map fun x => txKindCode x.1).getD 0xFF = kind ∧
      ((o.failure.map fun f => (tx.kind, f)).map fun x => failureCode x.2).getD 0 = outcome := by
    rcases o with v | f
    · obtain ⟨rfl, rfl⟩ := Prod.mk.inj hcodes
      exact ⟨rfl, rfl⟩
    · obtain ⟨rfl, rfl⟩ := Prod.mk.inj hcodes
      exact ⟨rfl, rfl⟩
  have ended_failing {out : LaneOut} {short : Option Nat} (hwaiters : out.waiters = [])
      (h : L.quiesceOutcome l tx (s.directStopped l) o = (out, short, o.failure.map fun f => (tx.kind, f))) :
      exec (.frameEnd p ans) s = ends out short kind outcome := by
    have hnext := ended hE hwaiters h
    rw [hkind.1, hkind.2] at hnext
    exact hnext
  refine ⟨?_, ?_, ?_, ?_, ?_⟩
  · rintro rfl
    exact ended_failing rfl rfl
  · rintro rfl
    exact ended_failing rfl rfl
  · rintro i x rfl
    refine ⟨fun ho => ?_, fun ho => ?_⟩
    · obtain ⟨f, hf, rfl⟩ : ∃ f, (f = .noResponse ∨ f = .parity) ∧ o = .failed f := by
        rcases ho with rfl | rfl <;> exact ⟨_, by simp, rfl⟩
      refine ended_failing rfl ?_
      rw [← Lane.pollEffect_failed hf l L i]
      rcases hf with rfl | rfl <;> rfl
    · refine ended hE (failure := none) (L.pollEffect_waiters l i o) ?_
      rcases ho with rfl | ⟨v, rfl⟩ <;> rfl
  · intro d rest hdirect hd
    have hds : s.directStopped l = s.stopped d.id := by
      rw [State.directStopped, ← hL, hd]
    refine ended hE (failure := none) (L.takeDirect_waiters _ o) ?_
    rw [← hds]
    cases tx with
    | directRead a => rfl
    | directWrite a v => rfl
    | _ => simp [Tx.isDirect] at hdirect
  intro x e done refused put hx he hpend hq hdone hrefused hput
  have hpend' : (L.image.get x).state = .pending := he ▸ hpend
  have hdone (v : Option Byte) : done v = (L.image.get x).endWrite v := by
    rw [← he]
    refine Entry.eq_endWrite (fun hi => ?_) fun i hi => ?_
    · rw [hdone, hi]
    · rw [hdone, hi]
  have hrefused (v : Option Byte) (r : RefusalReason) : refused v r = (L.image.get x).endRefused v r := by
    rw [hrefused, Entry.endRefused, hdone, ← he]
  have hcut : put (done none) = Lane.out { L with image := L.image.modify x (Entry.endWrite none) } := by
    rw [hput, hdone, ← Image.modify_eq]
  have hagain : put (done none) = Lane.out { L with
      image := (L.image.modify x fun _ => (L.image.get x).attempt).modify x (Entry.endWrite none) } := by
    rw [hput, hdone, Image.endWrite_attempt hq]
  refine ⟨?_, ?_, ?_⟩
  · rintro v rfl
    have hverdict := Lane.writeVerdict_wb hpend' l v o
    refine ⟨?_, ?_, ?_⟩
    · rintro u rfl hv
      rw [hput, hdone, he]
      exact ended hE rfl (Lane.quiesceOutcome_ended (.inr ⟨v, rfl⟩) (hverdict.trans (Lane.wbVerdict_done hv l x v u)) _)
    · rintro u rfl hv
      rw [hcut]
      exact ended hE rfl
        (Lane.quiesceOutcome_verifyDue (.inr ⟨v, rfl⟩) (hverdict.trans (Lane.wbVerdict_done_verify hv l x v u)) _)
    · rintro rfl
      rw [hput, hrefused, he]
      exact ended hE rfl (Lane.quiesceOutcome_ended (.inr ⟨v, rfl⟩) (hverdict.trans (L.wbVerdict_nak l x v)) _)
  · rintro rfl
    have hverdict := Lane.writeVerdict_verify hpend' l o
    rw [he]
    refine ⟨?_, ?_, ?_, ?_⟩
    · rintro u rfl hv
      rw [hput, hdone]
      exact ended hE rfl (Lane.quiesceOutcome_ended (.inl rfl) (hverdict.trans (Lane.verifyVerdict_match hv l)) _)
    · rintro u rfl hv ha
      rw [hagain]
      exact ended hE rfl (Lane.quiesceOutcome_again (.inl rfl) (hverdict.trans (Lane.verifyVerdict_again hv ha l)) _)
    · rintro u rfl hv ha
      rw [hput, hrefused]
      exact ended hE rfl (Lane.quiesceOutcome_ended (.inl rfl) (hverdict.trans (Lane.verifyVerdict_mismatch hv ha l)) _)
    · rintro rfl
      rw [hput, hrefused]
      exact ended hE rfl (Lane.quiesceOutcome_ended (.inl rfl) (hverdict.trans (L.verifyVerdict_nak l x)) _)
  · intro htx ho
    obtain ⟨f, hf, rfl⟩ : ∃ f, (f = .noResponse ∨ f = .parity) ∧ o = .failed f := by
      rcases ho with rfl | rfl <;> exact ⟨_, by simp, rfl⟩
    have hverdict := Lane.writeVerdict_failed hpend' l htx hf
    rw [he]
    refine ⟨fun ha => ?_, fun ha => ?_⟩
    · rw [hagain]
      exact ended_failing rfl (Lane.quiesceOutcome_again htx (hverdict.trans (Lane.writeFailed_again ha tx)) _)
    · rw [hput, hdone]
      exact ended_failing rfl (Lane.quiesceOutcome_exhausted htx (hverdict.trans (Lane.writeFailed_exhausted ha tx)) _)

end Sys2Proof.Machine
end

section
/-! PROOF. LANE_DETACH in each lane state, and the Chain Loader at it (R62 to R64, R122, R135). -/

namespace Sys2Proof.Machine

/-! ### The Chain Loader at a LANE_DETACH -/

theorem State.blockReadInFlight_iff {s : State} :
    s.blockReadInFlight = true ↔ ∃ x, Transfer.blockRead x true ∈ s.transfers := by
  simp only [State.blockReadInFlight, List.any_eq_true, Bool.and_eq_true]
  constructor
  · rintro ⟨t, ht, hb, hst⟩
    cases t with
    | blockRead x started =>
      obtain rfl : started = true := hst
      exact ⟨x, ht⟩
    | _ => cases hb
  · rintro ⟨x, hx⟩
    exact ⟨_, hx, rfl, rfl⟩

/-- An active load that ends, by what waits behind it (R122). -/
theorem State.endLoad_nil {s : State} (hq : s.loader.queue = []) {left : List Transfer}
    (hleft : left = s.transfers.filter fun x => x.started || !x.isBlockRead) :
    s.endLoad = { s.afterTransfer left with loader := { s.loader with active := none, staging := Staging.reset } } := by
  subst hleft
  rw [State.endLoad, State.nextLoad, State.withdraw_loader, hq]
  rfl

theorem State.endLoad_cons {s : State} {q : Load} {qs : List Load} (hq : s.loader.queue = q :: qs) {left : List Transfer}
    (hleft : left = s.transfers.filter fun x => x.started || !x.isBlockRead) :
    s.endLoad =
      { s.afterTransfer left with
        loader := { s.loader with
          queue := qs, staging := Staging.reset,
          active := some { id := q.id, lane := q.lane, mode := q.mode, stage := .read q.first, position := 1,
                           blocksRead := 0 } },
        transfers := (s.afterTransfer left).transfers ++ [.blockRead q.first false] } := by
  subst hleft
  rw [State.endLoad, State.nextLoad, State.withdraw_loader, hq]
  rfl

theorem State.detachLoads_other {s : State} {l : Fin 16} (h : ∀ a ∈ s.loader.active, a.lane ≠ l) :
    s.detachLoads l =
      { s with loader := { s.loader with queue := s.loader.queue.filter fun q => decide (q.lane ≠ l) } } := by
  unfold State.detachLoads
  cases ha : s.loader.active with
  | none => rfl
  | some a => exact if_neg (h a ha)

theorem State.detachLoads_own {s : State} {l : Fin 16} {a : ActiveLoad} (ha : s.loader.active = some a) (hl : a.lane = l) :
    s.detachLoads l =
      if s.blockReadInFlight then
        { s with loader := { queue := s.loader.queue.filter fun q => decide (q.lane ≠ l), active := none,
                             discarded := true, staging := Staging.reset } }
      else State.endLoad
        { s with loader := { s.loader with queue := s.loader.queue.filter fun q => decide (q.lane ≠ l) } } := by
  unfold State.detachLoads
  rw [ha]
  exact if_pos hl

/-- A LANE_DETACH at the Chain Loader leaves the part outside the loader and the Host Port. -/
theorem State.detachLoads_rest (s : State) (l : Fin 16) :
    s.detachLoads l =
      { s with loader := (s.detachLoads l).loader, transfers := (s.detachLoads l).transfers,
               messages := (s.detachLoads l).messages } := by
  by_cases h : ∀ a ∈ s.loader.active, a.lane ≠ l
  · rw [State.detachLoads_other h]
  obtain ⟨a, ha, hl⟩ : ∃ a, s.loader.active = some a ∧ a.lane = l := by simpa using h
  rw [State.detachLoads_own ha hl]
  split_ifs
  · rfl
  generalize hkept : (s.loader.queue.filter fun q => decide (q.lane ≠ l)) = kept
  cases kept with
  | nil => rw [State.endLoad_nil (s := { s with loader := { s.loader with queue := [] } }) rfl rfl]; rfl
  | cons q qs => rw [State.endLoad_cons (s := { s with loader := { s.loader with queue := q :: qs } }) rfl rfl]; rfl

/-- What a LANE_DETACH makes of the loader and of the Host Port, in the words of R122 and R135. -/
theorem State.detachLoads_spec {s : State} {l : Fin 16} {kept : List Load} {left : List Transfer} {m : State}
    (hkept : kept = s.loader.queue.filter fun q => decide (q.lane ≠ l))
    (hleft : left = s.transfers.filter fun x => x.started || !x.isBlockRead) (hm : m = s.detachLoads l) :
    ((∀ a ∈ s.loader.active, a.lane ≠ l) →
      m.loader = { s.loader with queue := kept } ∧ m.transfers = s.transfers ∧ m.messages = s.messages) ∧
    ∀ a, s.loader.active = some a → a.lane = l →
      ((∃ x, Transfer.blockRead x true ∈ s.transfers) →
        m.loader = { queue := kept, active := none, discarded := true, staging := Staging.reset } ∧
          m.transfers = s.transfers ∧ m.messages = s.messages) ∧
      ((∀ x, Transfer.blockRead x true ∉ s.transfers) →
        m.messages = (s.afterTransfer left).messages ∧
        (kept = [] →
          m.transfers = (s.afterTransfer left).transfers ∧
          m.loader = { s.loader with queue := [], active := none, staging := Staging.reset }) ∧
        ∀ q qs, kept = q :: qs →
          m.transfers = (s.afterTransfer left).transfers ++ [.blockRead q.first false] ∧
          m.loader = { s.loader with
            queue := qs, staging := Staging.reset,
            active := some { id := q.id, lane := q.lane, mode := q.mode, stage := .read q.first,
                             position := 1, blocksRead := 0 } }) := by
  refine ⟨fun h => ?_, fun a ha hl => ⟨fun hread => ?_, fun hread => ?_⟩⟩
  · rw [hm, State.detachLoads_other h, hkept]
    exact ⟨rfl, rfl, rfl⟩
  · rw [hm, State.detachLoads_own ha hl, if_pos (State.blockReadInFlight_iff.2 hread), hkept]
    exact ⟨rfl, rfl, rfl⟩
  · have hnone : ¬ s.blockReadInFlight = true := by
      rw [State.blockReadInFlight_iff]
      exact fun ⟨x, hx⟩ => hread x hx
    rw [State.detachLoads_own ha hl, if_neg hnone, ← hkept] at hm
    rw [hm]
    cases kept with
    | nil =>
      rw [State.endLoad_nil (s := { s with loader := { s.loader with queue := [] } }) rfl hleft]
      exact ⟨rfl, fun _ => ⟨rfl, rfl⟩, nofun⟩
    | cons q qs =>
      rw [State.endLoad_cons (s := { s with loader := { s.loader with queue := q :: qs } }) rfl hleft]
      refine ⟨rfl, nofun, ?_⟩
      rintro q' qs' h
      obtain ⟨rfl, rfl⟩ := List.cons.inj h
      exact ⟨rfl, rfl⟩

/-! ### LANE_DETACH -/

/-- The commands that a LANE_DETACH aborts, in the order of R63. -/
theorem State.detachAborts_ids (s : State) (l : Fin 16) :
    (s.detachAborts l).map (·.id) =
      s.lanes[l].transition.toList ++ s.lanes[l].waiters.map (·.id) ++ s.lanes[l].directs.map (·.id) ++
        ((s.loader.active.filter fun a => decide (a.lane = l)).map (·.id)).toList ++
        (s.loader.queue.filter fun q => decide (q.lane = l)).map (·.id) := by
  simp [State.detachAborts, Lane.transitionDone, Lane.waiterCompletions, abortedDone, Option.toList_map, Function.comp_def]

theorem State.detachAborts_aborted {s : State} {l : Fin 16} {c : Completion} (hc : c ∈ s.detachAborts l) :
    c.status = .aborted ∧ c.detail = none := by
  simp only [State.detachAborts, Lane.transitionDone, Lane.waiterCompletions, Option.toList_map, List.mem_append,
    List.mem_map] at hc
  obtain (((⟨i, -, rfl⟩ | ⟨w, -, rfl⟩) | ⟨d, -, rfl⟩) | ⟨a, -, rfl⟩) | ⟨q, -, rfl⟩ := hc <;> exact ⟨rfl, rfl⟩

/-- The part while the lane's commands finish ABORTED: the table and the finish list, and nothing else. -/
theorem State.detachAborts_open {s : State} {l : Fin 16} {r : Request} (hfresh : ∀ e ∈ s.table, e.id ≠ r.id)
    (hn : ((s.detachAborts l).map (·.id)).Nodup)
    (hopen : ∀ i ∈ (s.detachAborts l).map (·.id), ∃ e ∈ s.table, e.id = i ∧ e.finished = false) :
    ((s.opened r).finishAll (s.detachAborts l)).finishList =
        s.finishList ++ ((s.detachAborts l).map (·.id)).map .entry ∧
      r.entry .active ∈ ((s.opened r).finishAll (s.detachAborts l)).table ∧
      ∀ i ∈ (s.detachAborts l).map (·.id), ∃ e ∈ ((s.opened r).finishAll (s.detachAborts l)).table,
        e.id = i ∧ ∃ res, e.stage = .finished .aborted none res := by
  have hkeeps (e : OctEntry) (he : e ∈ s.table) : e ∈ (s.opened r).table := List.mem_append_left _ he
  refine ⟨State.finishAll_list hn fun i hi => ?_, ?_, fun i hi => ?_⟩
  · obtain ⟨e, he, hid⟩ := hopen i hi
    exact ⟨e, hkeeps e he, hid⟩
  · have hnew : (r.entry .active).id ∉ (s.detachAborts l).map (·.id) := by
      intro hi
      obtain ⟨e, he, hid, -⟩ := hopen _ hi
      exact hfresh e he hid
    rw [State.finishAll_table]
    exact List.mem_map.2 ⟨r.entry .active, List.mem_append_right _ (List.mem_singleton_self _),
      OctEntry.foldl_finish_of_not_mem hnew⟩
  · obtain ⟨e, he, rfl, hf⟩ := hopen i hi
    obtain ⟨c, hc, hid⟩ := List.mem_map.1 hi
    obtain ⟨hstatus, hdetail⟩ := State.detachAborts_aborted hc
    rw [State.finishAll_table]
    refine ⟨_, List.mem_map.2 ⟨e, hkeeps e he, OctEntry.foldl_finish_of_mem hn hc hid.symm hf⟩, rfl, c.result, ?_⟩
    rw [hstatus, hdetail]

/-- A command that stands open in the table finishes. -/
theorem State.finish_of_open {s : State} {c : Completion} (h : ∃ e ∈ s.table, e.id = c.id ∧ e.finished = false) :
    s.finish c = { s with table := s.table.map (OctEntry.finish c), finishList := s.finishList ++ [.entry c.id] } := by
  rcases s.finish_cases c with ⟨-, hc⟩ | ⟨hno, -⟩
  · exact hc
  · obtain ⟨e, he, hid, hf⟩ := h
    rw [hno e he hid] at hf
    cases hf

/-- Settles O28: the aborts at the table, the loader, and the lane with and without a frame in flight. -/
theorem detachClearsOrWaits : Obligations.DetachClearsOrWaits := by
  unfold Obligations.DetachClearsOrWaits
  intro ring tag lane s l r aborted kept left hr h haborted hnodup hopen hkept hleft
  have hx : exec (.laneDetach ring tag lane) s = .next ((s.opened r).runDetach r.id l).release := by
    have hrow : exec (.laneDetach ring tag lane) s = .next (s.takeRecord r) := by subst hr; rfl
    have hcmd : r.cmd = .laneDetach := by rw [hr]
    rw [hrow, takeRecord_activates h, if_pos hcmd, State.runCmd, h.lane, hcmd]
  have hrun : (s.opened r).runDetach r.id l =
      if s.lanes[l].state = .detached then (s.opened r).finish (okDone r.id none)
      else if s.lanes[l].state = .detaching then (s.opened r).refuse r.id .state
      else
        if (s.inFlight l).isNone then
          (State.setLane l (s.lanes[l].detach r.id (s.inFlight l))
            (((s.opened r).finishAll (s.detachAborts l)).detachLoads l)).finish (okDone r.id none)
        else State.setLane l (s.lanes[l].detach r.id (s.inFlight l))
          (((s.opened r).finishAll (s.detachAborts l)).detachLoads l) := rfl
  refine ⟨fun hst => ?_, fun hst => ?_, fun hst hst' => ?_⟩
  · rw [hx, hrun, if_pos hst]
    exact congrArg (fun u : State => Host.Outcome.next u.release) (finish_opened s r .ok _ h.fresh)
  · rw [hx, hrun, if_neg (by rw [hst]; decide), if_pos hst, refuse_opened s r _ h.fresh]
  rw [if_neg hst, if_neg hst'] at hrun
  rw [← State.detachAborts_ids] at haborted
  subst haborted
  obtain ⟨hlist, hactive, hfinished⟩ := State.detachAborts_open h.fresh hnodup hopen
  obtain ⟨T, F, hV⟩ : ∃ T F, (s.opened r).finishAll (s.detachAborts l) = { s with table := T, finishList := F } :=
    ⟨_, _, State.finishAll_rest (s.opened r) (s.detachAborts l)⟩
  rw [hV] at hrun hlist hactive hfinished
  have hspec := State.detachLoads_spec (s := { s with table := T, finishList := F }) (l := l) hkept hleft rfl
  obtain ⟨hqueue, hactiveLoad⟩ := detachLoads_none { s with table := T, finishList := F } l
  obtain ⟨d, ts, n, hW⟩ : ∃ d ts n, State.detachLoads l { s with table := T, finishList := F } =
      { s with table := T, finishList := F, loader := d, transfers := ts, messages := n } :=
    ⟨_, _, _, State.detachLoads_rest _ l⟩
  rw [hW] at hrun hspec hqueue hactiveLoad
  obtain ⟨hother, hown⟩ := hspec
  cases hf : s.inFlight l with
  | none =>
    have hfinish : (s.opened r).runDetach r.id l =
        { s with table := T.map (OctEntry.finish (okDone r.id none)), finishList := F ++ [.entry r.id], loader := d,
                 transfers := ts, messages := n, lanes := s.lanes.set l Lane.reset } := by
      rw [hrun, hf]
      exact State.finish_of_open ⟨_, hactive, rfl, rfl⟩
    refine ⟨_, hx.trans (congrArg (fun u : State => Host.Outcome.next u.release) hfinish),
      fun k hk => vector_set_get_ne _ _ hk, rfl, rfl, rfl, rfl, rfl, hqueue, hactiveLoad, hother, hown, fun i hi => ?_, fun _ => ⟨vector_set_get_self _ _ _, ?_, ?_⟩, fun h => absurd rfl h⟩
    · obtain ⟨e, he, hid, res, hstage⟩ := hfinished i hi
      exact ⟨e, List.mem_map.2 ⟨e, he, OctEntry.finish_of_finished (by simp [OctEntry.finished, hstage])⟩, hid, res, hstage⟩
    · exact List.mem_map.2 ⟨_, hactive, OctEntry.finish_of rfl rfl⟩
    · exact congrArg (· ++ [FinishItem.entry r.id]) hlist
  | some tx =>
    have hwaits : (s.opened r).runDetach r.id l =
        { s with table := T, finishList := F, loader := d, transfers := ts, messages := n,
                 lanes := s.lanes.set l (s.lanes[l].detach r.id (some tx)) } := by
      rw [hrun, hf]
      rfl
    refine ⟨_, hx.trans (congrArg (fun u : State => Host.Outcome.next u.release) hwaits),
      fun k hk => vector_set_get_ne _ _ hk, rfl, rfl, rfl, rfl, rfl, hqueue, hactiveLoad, hother, hown, hfinished, nofun, fun _ => ?_⟩
    simp only [vector_set_get_self]
    exact ⟨rfl, rfl, rfl, rfl, rfl, rfl, rfl, rfl, rfl, rfl, rfl, hactive, hlist⟩

end Sys2Proof.Machine
end

section
/-! PROOF. STOP (R67, R68, R89, R136, R155, R156, R170): the order of the aborted commands, the table, the loader
and the transfers, and the end of STOPPING. -/

namespace Sys2Proof.Machine

/-! ### Ordering several groups of a list in place -/

section
variable {ι α : Type} (p : ι → α → Bool) (key : ι → α → Nat)

/-- Each place keeps its groups, and an element of no group stays. -/
def SamePlaces (xs ys : List α) : Prop :=
  List.Forall₂ (fun x z => (∀ l, p l z = p l x) ∧ ((∀ l, p l x = false) → z = x)) xs ys

/-- The groups' orderings, one after another. -/
def orderGroups (ls : List ι) (xs : List α) : List α := ls.foldl (fun xs l => sortWithin (p l) (key l) xs) xs

variable {p key}

theorem SamePlaces.refl (xs : List α) : SamePlaces p xs xs := List.forall₂_same.2 fun _ _ => ⟨fun _ => rfl, fun _ => rfl⟩

theorem SamePlaces.trans {xs ys zs : List α} (h : SamePlaces p xs ys) (h' : SamePlaces p ys zs) : SamePlaces p xs zs := by
  induction h generalizing zs with
  | nil => exact h'
  | cons hxy _ ih =>
    cases h' with
    | cons hyz htail =>
      refine .cons ⟨fun l => (hyz.1 l).trans (hxy.1 l), fun hx => ?_⟩ (ih htail)
      rw [hyz.2 fun l => (hxy.1 l).trans (hx l), hxy.2 hx]

/-- Elements outside the ordered group keep their places. -/
theorem filter_eq_of_forall₂ {q : α → Bool} {xs ys : List α}
    (h : List.Forall₂ (fun x z => q z = q x ∧ (q x = true → z = x)) xs ys) : ys.filter q = xs.filter q := by
  induction h with
  | nil => rfl
  | cons hxy _ ih =>
    obtain ⟨hq, heq⟩ := hxy
    rw [List.filter_cons, List.filter_cons, hq, ih]
    split_ifs with hx
    · rw [heq hx]
    · rfl

theorem sortWithin_samePlaces (hdisj : ∀ l m x, p l x = true → p m x = true → l = m) (l : ι) (xs : List α) :
    SamePlaces p xs (sortWithin (p l) (key l) xs) ∧
      ∀ m, m ≠ l → (sortWithin (p l) (key l) xs).filter (p m) = xs.filter (p m) := by
  obtain ⟨-, -, hplaces⟩ := sortWithin_spec (p l) (key l) xs
  have hother {m : ι} (hm : m ≠ l) {x : α} (hx : p l x = true) : p m x = false :=
    Bool.eq_false_iff.2 fun h => hm (hdisj m l x h hx)
  have hsame {x z : α} (h : p l z = p l x ∧ (p l x = false → z = x)) (m : ι) : p m z = p m x := by
    obtain ⟨hz, heq⟩ := h
    by_cases hm : m = l
    · rw [hm, hz]
    · cases hx : p l x with
      | false => rw [heq hx]
      | true => rw [hother hm hx, hother hm (hz.trans hx)]
  refine ⟨hplaces.imp fun x z h => ⟨hsame h, fun hx => h.2 (hx l)⟩, fun m hm => ?_⟩
  refine filter_eq_of_forall₂ (hplaces.imp fun x z h => ⟨hsame h m, fun hx => h.2 ?_⟩)
  exact Bool.eq_false_iff.2 fun h => hm (hdisj m l x hx h)

theorem orderGroups_spec (hdisj : ∀ l m x, p l x = true → p m x = true → l = m) {ls : List ι} (hn : ls.Nodup)
    (xs : List α) :
    (orderGroups p key ls xs).Perm xs ∧ SamePlaces p xs (orderGroups p key ls xs) ∧
      (∀ l ∈ ls, (orderGroups p key ls xs).filter (p l) = sortOn (key l) (xs.filter (p l))) ∧
      ∀ l ∉ ls, (orderGroups p key ls xs).filter (p l) = xs.filter (p l) := by
  induction ls generalizing xs with
  | nil => exact ⟨.refl _, .refl _, nofun, fun _ _ => rfl⟩
  | cons l ls ih =>
    obtain ⟨hl, hn⟩ := List.nodup_cons.1 hn
    obtain ⟨hperm, hsorted, -⟩ := sortWithin_spec (p l) (key l) xs
    obtain ⟨hplaces, hothers⟩ := sortWithin_samePlaces (key := key) hdisj l xs
    obtain ⟨hperm', hplaces', hin, hout⟩ := ih hn (sortWithin (p l) (key l) xs)
    refine ⟨hperm'.trans hperm, hplaces.trans hplaces', fun m hm => ?_, fun m hm => ?_⟩
    · by_cases hml : m = l
      · subst hml
        exact (hout m hl).trans hsorted
      · have hm' := (List.mem_cons.1 hm).resolve_left hml
        exact (hin m hm').trans (by rw [hothers m hml])
    · rw [List.mem_cons, not_or] at hm
      exact (hout m hm.2).trans (hothers m hm.1)

end

/-! ### The commands that STOP aborts, in their order -/

theorem State.stopEnds_eq (s : State) :
    s.stopEnds = orderGroups s.waitsAt s.waiterPlace laneIndices
      (s.table.filter fun e => !e.finished && !s.awaitsEnd e) := rfl

theorem State.waitsAt_iff {s : State} {l : Fin 16} {e : OctEntry} :
    s.waitsAt l e = true ↔ e.lane.toNat = l.val ∧ ∃ w ∈ s.lanes[l].waiters, w.id = e.id := by
  have hlane : laneOfByte e.lane = some l ↔ e.lane.toNat = l.val := by
    refine ⟨fun h => ?_, laneOfByte_of⟩
    unfold laneOfByte at h
    split_ifs at h with hlt
    · exact congrArg Fin.val (Option.some.inj h)
  simp only [State.waitsAt, Bool.and_eq_true, decide_eq_true_eq, List.any_eq_true, hlane]

theorem State.waitsAt_disjoint (s : State) (l m : Fin 16) (e : OctEntry) (hl : s.waitsAt l e = true)
    (hm : s.waitsAt m e = true) : l = m :=
  Fin.ext ((State.waitsAt_iff.1 hl).1.symm.trans (State.waitsAt_iff.1 hm).1)

/-- The frame in flight is that of the head direct request of a lane (R83). -/
theorem State.directFrameOf_iff {s : State} {l : Fin 16} {id : CmdId} :
    s.directFrameOf l id = true ↔ ∃ (b : Binding) (tx : Tx) (d : DirectReq) (rest : List DirectReq),
      s.lanes[l].binding = some b ∧ s.ports[b.port].frame = some { lane := l, tx := tx } ∧
        ((∃ x, tx = .directRead x) ∨ ∃ x v, tx = .directWrite x v) ∧ s.lanes[l].directs = d :: rest ∧ d.id = id := by
  have hdirect (tx : Tx) : tx.isDirect = true ↔ (∃ x, tx = .directRead x) ∨ ∃ x v, tx = .directWrite x v := by
    cases tx <;> simp [Tx.isDirect]
  have hflight (tx : Tx) : s.inFlight l = some tx ↔
      ∃ b, s.lanes[l].binding = some b ∧ s.ports[b.port].frame = some { lane := l, tx := tx } := by
    cases hb : s.lanes[l].binding with
    | none => simp [State.inFlight_of_unbound hb]
    | some b =>
      rw [State.inFlight_of_binding hb]
      simp only [Option.some.injEq, exists_eq_left']
      rcases hf : s.ports[b.port].frame with _ | ⟨m, tx'⟩
      · simp
      · simp [Frame.mk.injEq]
  have hhead : (s.lanes[l].directs.head?.map (·.id)) = some id ↔
      ∃ d rest, s.lanes[l].directs = d :: rest ∧ d.id = id := by
    cases s.lanes[l].directs <;> simp
  have hbusy : ((s.inFlight l).map Tx.isDirect).getD false = true ↔ ∃ tx, s.inFlight l = some tx ∧ tx.isDirect = true := by
    cases s.inFlight l <;> simp
  simp only [State.directFrameOf, Bool.and_eq_true, decide_eq_true_eq, hbusy, hhead, hflight, hdirect]
  constructor
  · rintro ⟨⟨tx, ⟨b, hb, hf⟩, htx⟩, d, rest, hd, hid⟩
    exact ⟨b, tx, d, rest, hb, hf, htx, hd, hid⟩
  · rintro ⟨b, tx, d, rest, hb, hf, htx, hd, hid⟩
    exact ⟨⟨tx, ⟨b, hb, hf⟩, htx⟩, d, rest, hd, hid⟩

theorem State.reportStarted_iff {s : State} {id : CmdId} :
    (s.transfers.any fun t => t.isReportOf id && t.started) = true ↔
      ∃ x bs, Transfer.reportWrite id x bs true ∈ s.transfers := by
  simp only [List.any_eq_true, Bool.and_eq_true]
  constructor
  · rintro ⟨t, ht, hid, hst⟩
    cases t with
    | reportWrite i x bs started =>
      obtain rfl : i = id := of_decide_eq_true hid
      obtain rfl : started = true := hst
      exact ⟨x, bs, ht⟩
    | _ => cases hid
  · rintro ⟨x, bs, hx⟩
    exact ⟨_, hx, decide_eq_true rfl, rfl⟩

/-- The commands that STOP lets end with their own frame or transfer (R156). -/
theorem State.awaitsEnd_iff {s : State} {e : OctEntry} :
    s.awaitsEnd e = true ↔ e.stage = .active ∧
      (((∃ x, e.cmd = .readDirect x) ∨ ∃ x v, e.cmd = .writeDirect x v) ∧
          (∃ (l : Fin 16) (b : Binding) (tx : Tx) (d : DirectReq) (rest : List DirectReq),
            e.lane.toNat = l.val ∧ s.lanes[l].binding = some b ∧
              s.ports[b.port].frame = some { lane := l, tx := tx } ∧
              ((∃ x, tx = .directRead x) ∨ ∃ x v, tx = .directWrite x v) ∧
              s.lanes[l].directs = d :: rest ∧ d.id = e.id) ∨
        (∃ m x, e.cmd = .chainLoad m x) ∧ (∃ d, s.loader.active = some d ∧ d.id = e.id) ∧
          (∃ x, Transfer.blockRead x true ∈ s.transfers) ∨
        (∃ x, e.cmd = .laneReport x) ∧ ∃ x bs, Transfer.reportWrite e.id x bs true ∈ s.transfers) := by
  have hdirect : (match laneOfByte e.lane with
        | some l => s.directFrameOf l e.id
        | none => false) = true ↔
      ∃ (l : Fin 16) (b : Binding) (tx : Tx) (d : DirectReq) (rest : List DirectReq),
        e.lane.toNat = l.val ∧ s.lanes[l].binding = some b ∧ s.ports[b.port].frame = some { lane := l, tx := tx } ∧
          ((∃ x, tx = .directRead x) ∨ ∃ x v, tx = .directWrite x v) ∧ s.lanes[l].directs = d :: rest ∧ d.id = e.id := by
    by_cases hlane : e.lane.toNat < 16
    · have hl : laneOfByte e.lane = some ⟨e.lane.toNat, hlane⟩ := laneOfByte_of rfl
      rw [hl]
      refine State.directFrameOf_iff.trans ⟨fun ⟨b, tx, d, rest, h⟩ => ⟨_, b, tx, d, rest, rfl, h⟩, ?_⟩
      rintro ⟨l, b, tx, d, rest, hval, h⟩
      obtain rfl : l = ⟨e.lane.toNat, hlane⟩ := Fin.ext hval.symm
      exact ⟨b, tx, d, rest, h⟩
    · have hl : laneOfByte e.lane = none := dif_neg hlane
      rw [hl]
      refine ⟨nofun, ?_⟩
      rintro ⟨l, -, -, -, -, hval, -⟩
      exact absurd l.isLt (by omega)
  have hload : (decide ((s.loader.active.map (·.id)) = some e.id) && s.blockReadInFlight) = true ↔
      (∃ d, s.loader.active = some d ∧ d.id = e.id) ∧ ∃ x, Transfer.blockRead x true ∈ s.transfers := by
    rw [Bool.and_eq_true, decide_eq_true_eq, State.blockReadInFlight_iff, Option.map_eq_some_iff]
  have hreport := State.reportStarted_iff (s := s) (id := e.id)
  unfold State.awaitsEnd
  rw [Bool.and_eq_true, decide_eq_true_eq]
  refine and_congr_right fun _ => ?_
  cases hc : e.cmd with
  | readDirect x => exact hdirect.trans (by simp)
  | writeDirect x v => exact hdirect.trans (by simp)
  | chainLoad m x => simpa using hload
  | laneReport x => simpa using hreport
  | _ => simp

end Sys2Proof.Machine
end

section
/-! PROOF. What STOP does at the table, the Chain Loader and the Host Port, and the claim about it (R136, R155, R156,
R170). -/

namespace Sys2Proof.Machine

/-! ### The table -/

theorem laneIndices_nodup : laneIndices.Nodup := List.nodup_finRange 16

theorem State.mem_stopEnds {s : State} {e : OctEntry} :
    e ∈ s.stopEnds ↔ e ∈ s.table ∧ e.finished = false ∧ s.awaitsEnd e = false := by
  rw [State.stopEnds_eq, (orderGroups_spec s.waitsAt_disjoint laneIndices_nodup _).1.mem_iff, List.mem_filter]
  simp only [Bool.and_eq_true, Bool.not_eq_true']

theorem State.not_awaitsEnd_of_finished {s : State} {e : OctEntry} (h : e.finished = true) : s.awaitsEnd e = false := by
  refine Bool.eq_false_iff.2 fun ha => ?_
  obtain ⟨hactive, -⟩ := State.awaitsEnd_iff.1 ha
  simp [OctEntry.finished, hactive] at h

theorem State.stopEnds_ids_nodup {s : State} (hn : (s.table.map (·.id)).Nodup) : (s.stopEnds.map (·.id)).Nodup := by
  have hperm := (orderGroups_spec (key := s.waiterPlace) s.waitsAt_disjoint laneIndices_nodup
    (s.table.filter fun e => !e.finished && !s.awaitsEnd e)).1
  have hsub := (List.filter_sublist (p := fun e => !e.finished && !s.awaitsEnd e) (l := s.table)).map OctEntry.id
  rw [State.stopEnds_eq, (hperm.map OctEntry.id).nodup_iff]
  exact List.Nodup.sublist hsub hn

theorem State.stopAborts_ids (s : State) : s.stopAborts.map (·.id) = s.stopEnds.map (·.id) := by
  simp only [State.stopAborts, List.map_map]
  rfl

/-- The aborted commands' part of STOP: each finishes ABORTED in its turn, and what waits for its own end is
marked (R156). -/
theorem State.stop_table {s : State} (hn : (s.table.map (·.id)).Nodup) :
    (s.markStopped.finishAll s.stopAborts).finishList = s.finishList ++ s.stopEnds.map (fun e => .entry e.id) ∧
      (∀ e ∈ s.stopEnds, ∃ f ∈ (s.markStopped.finishAll s.stopAborts).table, f.id = e.id ∧
        ∃ res, f.stage = .finished .aborted none res) ∧
      (∀ e ∈ s.table, e.finished = true → e ∈ (s.markStopped.finishAll s.stopAborts).table) ∧
      (∀ e ∈ s.table, s.awaitsEnd e = true →
        { e with stopped := true } ∈ (s.markStopped.finishAll s.stopAborts).table) ∧
      (s.markStopped.finishAll s.stopAborts).table.map (·.id) = s.table.map (·.id) := by
  have hids := State.stopEnds_ids_nodup hn
  have hmarked {e : OctEntry} (he : e ∈ s.table) (ha : s.awaitsEnd e = false) : e ∈ s.markStopped.table :=
    List.mem_map.2 ⟨e, he, if_neg (Bool.eq_false_iff.1 ha)⟩
  have htaken {e f : OctEntry} (he : e ∈ s.markStopped.table)
      (hf : s.stopAborts.foldl (fun e c => e.finish c) e = f) : f ∈ (s.markStopped.finishAll s.stopAborts).table := by
    rw [State.finishAll_table]
    exact List.mem_map.2 ⟨e, he, hf⟩
  refine ⟨?_, fun e he => ?_, fun e he hf => ?_, fun e he ha => ?_, ?_⟩
  · rw [State.finishAll_list (by rwa [State.stopAborts_ids]), State.stopAborts_ids, List.map_map]
    · rfl
    · intro i hi
      rw [State.stopAborts_ids] at hi
      obtain ⟨e, he, rfl⟩ := List.mem_map.1 hi
      obtain ⟨hmem, hf, ha⟩ := State.mem_stopEnds.1 he
      exact ⟨e, hmarked hmem ha, rfl, hf⟩
  · obtain ⟨hmem, hf, ha⟩ := State.mem_stopEnds.1 he
    have hc : { id := e.id, status := .aborted, detail := none, result := s.stopResult e } ∈ s.stopAborts :=
      List.mem_map.2 ⟨e, he, rfl⟩
    exact ⟨_, htaken (hmarked hmem ha)
      (OctEntry.foldl_finish_of_mem (by rwa [State.stopAborts_ids]) hc rfl hf), rfl, _, rfl⟩
  · exact htaken (hmarked he (State.not_awaitsEnd_of_finished hf)) (OctEntry.foldl_finish_of_finished hf)
  · refine htaken (List.mem_map.2 ⟨e, he, if_pos ha⟩) (OctEntry.foldl_finish_of_not_mem ?_)
    rw [State.stopAborts_ids]
    intro hi
    obtain ⟨f, hf, hid⟩ := List.mem_map.1 hi
    obtain ⟨hmem, -, hfa⟩ := State.mem_stopEnds.1 hf
    obtain rfl : f = e := List.inj_on_of_nodup_map hn hmem he hid
    rw [ha] at hfa
    cases hfa
  · rw [State.finishAll_ids, State.markStopped, List.map_map]
    refine List.map_congr_left fun e _ => ?_
    simp only [Function.comp_apply]
    split_ifs <;> rfl

/-! ### The Chain Loader and the Host Port -/

theorem mem_dropWhile_message {x : Transfer} {ts : List Transfer} (hx : x ≠ .message) :
    x ∈ ts.dropWhile Transfer.isMessage ↔ x ∈ ts := by
  refine ⟨fun h => (List.dropWhile_sublist _).subset h, fun h => ?_⟩
  rw [← List.takeWhile_append_dropWhile (p := Transfer.isMessage) (l := ts), List.mem_append] at h
  refine h.resolve_left fun ht => ?_
  have := List.mem_takeWhile_imp ht
  rw [Transfer.isMessage_eq_false hx] at this
  cases this

theorem Transfer.ne_message_of_started {x : Transfer} (h : x.started = true) : x ≠ .message := by
  rintro rfl
  cases h

/-- STOP at the Chain Loader (R136), case by case. -/
theorem State.stopLoads_reading {s : State} (h : s.loader.active = none ∨ s.blockReadInFlight = true) :
    s.stopLoads = { s with loader := { s.loader with queue := [] } } := by
  unfold State.stopLoads
  cases ha : s.loader.active with
  | none => rfl
  | some a => exact if_pos (h.resolve_left (by simp [ha]))

theorem State.stopLoads_ends {s : State} (ha : s.loader.active ≠ none) (h : s.blockReadInFlight = false) :
    s.stopLoads =
      { s.afterTransfer (s.transfers.filter fun x => x.started || !x.isBlockRead) with
        loader := { s.loader with queue := [], active := none, staging := Staging.reset } } := by
  obtain ⟨a, ha⟩ := Option.ne_none_iff_exists'.1 ha
  unfold State.stopLoads
  rw [ha]
  exact (if_neg (Bool.eq_false_iff.1 h)).trans
    (State.endLoad_nil (s := { s with loader := { s.loader with queue := [] } }) rfl rfl)

theorem State.stopLoads_rest (s : State) :
    s.stopLoads = { s with loader := s.stopLoads.loader, transfers := s.stopLoads.transfers,
                           messages := s.stopLoads.messages } := by
  by_cases h : s.loader.active = none ∨ s.blockReadInFlight = true
  · rw [State.stopLoads_reading h]
  · rw [not_or, Bool.not_eq_true] at h
    rw [State.stopLoads_ends h.1 h.2]
    rfl

/-- What STOP leaves of the loader. -/
theorem State.stopLoads_loader (s : State) :
    s.stopLoads.loader.queue = [] ∧ s.stopLoads.loader.discarded = s.loader.discarded ∧
      (s.blockReadInFlight = true →
        s.stopLoads.loader.active = s.loader.active ∧ s.stopLoads.loader.staging = s.loader.staging) ∧
      (s.blockReadInFlight = false → s.stopLoads.loader.active = none ∧
        (s.loader.active ≠ none → s.stopLoads.loader.staging = Staging.reset)) := by
  by_cases h : s.loader.active = none ∨ s.blockReadInFlight = true
  · rw [State.stopLoads_reading h]
    refine ⟨rfl, rfl, fun _ => ⟨rfl, rfl⟩, fun hread => ?_⟩
    have hnone : s.loader.active = none := h.resolve_right (by simp [hread])
    exact ⟨hnone, fun hne => absurd hnone hne⟩
  · rw [not_or, Bool.not_eq_true] at h
    rw [State.stopLoads_ends h.1 h.2]
    exact ⟨rfl, rfl, fun hread => absurd (hread.symm.trans h.2) nofun, fun _ => ⟨rfl, fun _ => rfl⟩⟩

/-- STOP withdraws block reads that have not been started, and no other transfer. -/
theorem State.stopLoads_transfers (s : State) :
    (∀ x ∈ s.transfers, x.started = true → x ∈ s.stopLoads.transfers) ∧
      (∀ x ∈ s.stopLoads.transfers, x ∈ s.transfers) ∧
      (LoaderInv s → s.device ≠ .resetting → ∀ x ∈ s.stopLoads.transfers, x.isBlockRead = true → x.started = true) := by
  by_cases h : s.loader.active = none ∨ s.blockReadInFlight = true
  · rw [State.stopLoads_reading h]
    refine ⟨fun x hx _ => hx, fun x hx => hx, fun hinv hd => ?_⟩
    obtain ⟨-, -, hsome, hreads⟩ := hinv
    obtain ⟨hcount, hstarted⟩ := hreads hd
    by_cases hdis : s.loader.discarded = true
    · exact hstarted hdis
    · have hle := Loader.reads_le (Bool.eq_false_iff.2 hdis)
      rcases h with hnone | hread
      · intro x hx hb
        have hzero : s.transfers.countP Transfer.isBlockRead = 0 := by
          rw [hcount]
          simp [Loader.reads, hnone, hdis]
        exact absurd hb (List.countP_eq_zero.1 hzero x hx)
      · exact started_of_blockReadInFlight (hcount.trans_le hle) hread
  · rw [not_or, Bool.not_eq_true] at h
    rw [State.stopLoads_ends h.1 h.2]
    have hmem {x : Transfer} (hx : x ∈ (s.afterTransfer (s.transfers.filter fun x => x.started || !x.isBlockRead)).transfers) :
        x ∈ s.transfers ∧ (x.started || !x.isBlockRead) = true :=
      List.mem_filter.1 ((List.dropWhile_sublist _).subset hx)
    refine ⟨fun x hx hs => ?_, fun x hx => (hmem hx).1, fun _ _ x hx hb => ?_⟩
    · exact (mem_dropWhile_message (Transfer.ne_message_of_started hs)).2 (List.mem_filter.2 ⟨hx, by simp [hs]⟩)
    · simpa [hb] using (hmem hx).2

theorem State.withdraw_mem (s : State) (q : Transfer → Bool) :
    (∀ x ∈ s.transfers, x.started = true → x ∈ (s.withdraw q).transfers) ∧
      ∀ x ∈ (s.withdraw q).transfers, x ∈ s.transfers ∧ (q x = true → x.started = true) := by
  rw [State.withdraw_transfers]
  refine ⟨fun x hx hs => ?_, fun x hx => ?_⟩
  · exact (mem_dropWhile_message (Transfer.ne_message_of_started hs)).2 (List.mem_filter.2 ⟨hx, by simp [hs]⟩)
  · obtain ⟨hmem, hkeep⟩ := List.mem_filter.1 ((List.dropWhile_sublist _).subset hx)
    exact ⟨hmem, fun hq => by simpa [hq] using hkeep⟩

/-! ### The end of STOPPING -/

theorem State.setCauses_mem (s : State) (c : Causes) :
    (∀ x ∈ s.transfers, x ≠ .message → x ∈ (s.setCauses c).transfers) ∧
      ∀ x ∈ (s.setCauses c).transfers, x = .message ∨ x ∈ s.transfers := by
  unfold State.setCauses State.messageOnRise
  split_ifs
  · have hsent : ((State.ask { s with intState := s.intState.union c } Transfer.message).sendDue).transfers =
        (s.transfers ++ [Transfer.message]).dropWhile Transfer.isMessage := rfl
    rw [hsent]
    refine ⟨fun x hx hne => (mem_dropWhile_message hne).2 (List.mem_append_left _ hx), fun x hx => ?_⟩
    rcases List.mem_append.1 ((List.dropWhile_sublist _).subset hx) with h | h
    · exact .inr h
    · exact .inl (List.mem_singleton.1 h)
  · exact ⟨fun x hx _ => hx, fun x hx => .inr hx⟩

/-- The end of STOPPING leaves everything but the device, the rings, the pending events, the causes and a message
that they may ask for. -/
theorem State.stopLeft_keeps (s : State) :
    s.stopLeft.table = s.table ∧ s.stopLeft.finishList = s.finishList ∧ s.stopLeft.lanes = s.lanes ∧
      s.stopLeft.loader = s.loader ∧ s.stopLeft.ports = s.ports ∧ s.stopLeft.cq = s.cq ∧
      s.stopLeft.intEnable = s.intEnable ∧ s.stopLeft.errorCode = s.errorCode ∧ s.stopLeft.pending = s.pending ∧
      (∀ x ∈ s.transfers, x ≠ .message → x ∈ s.stopLeft.transfers) ∧
      ∀ x ∈ s.stopLeft.transfers, x = .message ∨ x ∈ s.transfers := by
  unfold State.stopLeft
  split_ifs
  · rw [State.haltLeft_eq]
    have hmem := State.setCauses_mem { s.dropPending.ringsOff with device := .halted, errorCode := s.errorCode }
      { completion := false, event := false, error := false, state := true }
    refine ⟨?_, ?_, ?_, ?_, ?_, ?_, ?_, ?_, ?_, hmem⟩
    all_goals simp
  · exact ⟨rfl, rfl, rfl, rfl, rfl, rfl, rfl, rfl, rfl, fun x hx _ => hx, fun x hx => .inr hx⟩

end Sys2Proof.Machine
end

section
/-! PROOF. STOP in RUNNING as a whole (R156, R170). -/

namespace Sys2Proof.Machine

theorem Lane.stop_eq (L : Lane) (o : Option Tx) :
    L.stop o =
      { L with transition := none, waiters := [],
               directs := if ∃ tx ∈ o, tx.isDirect = true then L.directs.take 1 else [],
               retryDue := L.retryDue.filter fun tx => !tx.isDirect } := by
  have hbusy : (o.map Tx.isDirect).getD false = true ↔ ∃ tx ∈ o, tx.isDirect = true := by
    cases o <;> simp
  simp only [Lane.stop, hbusy]

theorem Causes.union_state (c : Causes) :
    c.union { completion := false, event := false, error := false, state := true } = { c with state := true } := by
  simp [Causes.union]

/-- What a halt leaves of the device, the causes, the rings and the pending events. -/
theorem State.haltLeft_fields (s : State) (code : ErrorCode) :
    let t := s.haltLeft code { completion := false, event := false, error := false, state := true }
    t.device = .halted ∧ t.intState = { s.intState with state := true } ∧
      (∀ q : Fin 4, t.rings[q] = { s.rings[q] with state := .off }) ∧
      ∀ kept : List Event, kept = (if ∃ x ∈ s.transfers, x.isEventWrite = true then s.eq.pending.take 1 else []) →
        t.eq = { s.eq with
          pending := kept, lost := min (s.eq.lost + (s.eq.pending.length - kept.length)) 65535 } := by
  refine ⟨haltLeft_device _ _ _, ?_, fun q => ?_, ?_⟩
  · rw [← Causes.union_state, State.haltLeft, State.setCauses_intState]
  · simp [State.haltLeft]
  · rintro kept rfl
    rw [State.haltLeft, State.setCauses_eq]

/-- Of the transfers that STOP leaves, those started are those there were. -/
theorem any_of_started {ts us : List Transfer} {p : Transfer → Bool} (hp : ∀ x, p x = true → x.started = true)
    (hstarted : ∀ x ∈ ts, x.started = true → x ∈ us) (hsub : ∀ x ∈ us, x ∈ ts) :
    (∃ x ∈ us, p x = true) ↔ ∃ x ∈ ts, p x = true :=
  ⟨fun ⟨x, hx, h⟩ => ⟨x, hsub x hx, h⟩, fun ⟨x, hx, h⟩ => ⟨x, hstarted x hx (hp x h), h⟩⟩

/-- STOP in RUNNING, before the end of STOPPING: what stands of the Chain Loader and of the transfers. -/
theorem State.controlStop_eq {s : State} (hd : s.device = .running) :
    ∃ (d : Loader) (ts : List Transfer) (n : Nat),
      s.controlStop = State.stopLeft
        { s with device := .stopping, table := (s.markStopped.finishAll s.stopAborts).table,
                 finishList := (s.markStopped.finishAll s.stopAborts).finishList,
                 lanes := Vector.ofFn fun l => s.lanes[l].stop (s.inFlight l),
                 loader := d, transfers := ts, messages := n } ∧
      d.queue = [] ∧ d.discarded = s.loader.discarded ∧
      (s.blockReadInFlight = true → d.active = s.loader.active ∧ d.staging = s.loader.staging) ∧
      (s.blockReadInFlight = false → d.active = none ∧ (s.loader.active ≠ none → d.staging = Staging.reset)) ∧
      (∀ x ∈ s.transfers, x.started = true → x ∈ ts) ∧
      (∀ x ∈ ts, x ∈ s.transfers ∧ (x.isReport = true → x.started = true)) ∧
      (LoaderInv s → ∀ x ∈ ts, x.isBlockRead = true → x.started = true) := by
  have hV : s.markStopped.finishAll s.stopAborts =
      { s with table := (s.markStopped.finishAll s.stopAborts).table,
               finishList := (s.markStopped.finishAll s.stopAborts).finishList } := State.finishAll_rest _ _
  rw [State.controlStop, if_pos hd, State.settleStop_eq]
  generalize (s.markStopped.finishAll s.stopAborts).table = T at hV ⊢
  generalize (s.markStopped.finishAll s.stopAborts).finishList = F at hV ⊢
  rw [hV]
  have hlanes : State.stopLanes { s with table := T, finishList := F } =
      { s with table := T, finishList := F, lanes := Vector.ofFn fun l => s.lanes[l].stop (s.inFlight l) } := rfl
  rw [hlanes]
  obtain ⟨hqueue, hdis, hreading, hending⟩ := State.stopLoads_loader
    { s with table := T, finishList := F, lanes := Vector.ofFn fun l => s.lanes[l].stop (s.inFlight l) }
  obtain ⟨hstarted, hsub, hblock⟩ := State.stopLoads_transfers
    { s with table := T, finishList := F, lanes := Vector.ofFn fun l => s.lanes[l].stop (s.inFlight l) }
  have hW := State.stopLoads_rest
    { s with table := T, finishList := F, lanes := Vector.ofFn fun l => s.lanes[l].stop (s.inFlight l) }
  generalize State.stopLoads
    { s with table := T, finishList := F, lanes := Vector.ofFn fun l => s.lanes[l].stop (s.inFlight l) } = W at *
  obtain ⟨hkeeps, hleft⟩ := W.withdraw_mem Transfer.isReport
  refine ⟨W.loader, (W.withdraw Transfer.isReport).transfers, (W.withdraw Transfer.isReport).messages, ?_, hqueue, hdis,
    hreading, hending, fun x hx hs => hkeeps x (hstarted x hx hs) hs, fun x hx => ?_, fun hinv x hx hb => ?_⟩
  · refine congrArg State.stopLeft ?_
    rw [hW]
    rfl
  · exact ⟨hsub x (hleft x hx).1, (hleft x hx).2⟩
  · exact hblock hinv (fun h => absurd (hd.symm.trans h) nofun) x (hleft x hx).1 hb

/-- Distinct waiters of a lane stand at distinct places (R67). -/
theorem State.waiterPlace_inj {s : State} {l : Fin 16} {e f : OctEntry} (he : s.waitsAt l e = true)
    (hf : s.waitsAt l f = true) (h : s.waiterPlace l e = s.waiterPlace l f) : e.id = f.id := by
  have hplace {g : OctEntry} (hg : s.waitsAt l g = true) :
      ∃ hlt : s.waiterPlace l g < s.lanes[l].waiters.length, s.lanes[l].waiters[s.waiterPlace l g].id = g.id := by
    obtain ⟨-, w, hw, hid⟩ := State.waitsAt_iff.1 hg
    have hlt : s.waiterPlace l g < s.lanes[l].waiters.length :=
      List.findIdx_lt_length_of_exists ⟨w, hw, decide_eq_true hid⟩
    exact ⟨hlt, of_decide_eq_true (List.findIdx_getElem (w := hlt))⟩
  obtain ⟨he', hide⟩ := hplace he
  obtain ⟨hf', hidf⟩ := hplace hf
  rw [← hide, ← hidf]
  simp only [h]

/-- The waiters of one lane among the aborted commands, in the order of its waiter list (R67). -/
theorem State.stopEnds_pairwise {s : State} (hn : (s.table.map (·.id)).Nodup) (l : Fin 16) :
    (s.stopEnds.filter (s.waitsAt l)).Pairwise fun e f => s.waiterPlace l e < s.waiterPlace l f := by
  obtain ⟨-, -, hin, -⟩ := orderGroups_spec (key := s.waiterPlace) s.waitsAt_disjoint laneIndices_nodup
    (s.table.filter fun e => !e.finished && !s.awaitsEnd e)
  have hsorted : (s.stopEnds.filter (s.waitsAt l)).Pairwise fun e f => s.waiterPlace l e ≤ s.waiterPlace l f := by
    rw [State.stopEnds_eq, hin l (mem_laneIndices l)]
    exact sortOn_sorted _ _
  have hids : s.stopEnds.Pairwise fun e f => e.id ≠ f.id := List.pairwise_map.1 (State.stopEnds_ids_nodup hn)
  refine (hsorted.and (hids.sublist List.filter_sublist)).imp_of_mem fun {e f} he hf h => ?_
  refine lt_of_le_of_ne h.1 fun hplace => h.2 ?_
  exact State.waiterPlace_inj (List.mem_filter.1 he).2 (List.mem_filter.1 hf).2 hplace

/-- Settles O40: the order of the aborted commands, the table, the loader and the transfers, and the end of
STOPPING. -/
theorem stopAbortsOutstanding : Obligations.StopAbortsOutstanding := by
  unfold Obligations.StopAbortsOutstanding
  intro s awaits waits place ended idle hd hn hawaits hwaits hplace hended hidle
  obtain rfl : awaits = s.awaitsEnd := funext fun e => Bool.eq_iff_iff.2 ((hawaits e).trans State.awaitsEnd_iff.symm)
  obtain rfl : waits = s.waitsAt :=
    funext fun l => funext fun e => Bool.eq_iff_iff.2 ((hwaits l e).trans State.waitsAt_iff.symm)
  obtain rfl : place = s.waiterPlace := funext fun l => funext fun e => hplace l e
  have horder := orderGroups_spec (key := s.waiterPlace) s.waitsAt_disjoint laneIndices_nodup ended
  rw [hended, ← State.stopEnds_eq, ← hended] at horder
  obtain ⟨hperm, hplaces, -, -⟩ := horder
  obtain ⟨hlist, haborted, hfinished, hmarked, hids⟩ := State.stop_table hn
  obtain ⟨d, ts, n, hstop, hqueue, hdis, hreading, hending, hstarted, hleft, hblock⟩ := State.controlStop_eq hd
  generalize (s.markStopped.finishAll s.stopAborts).table = T at *
  generalize (s.markStopped.finishAll s.stopAborts).finishList = F at *
  generalize hX : ({ s with
    device := .stopping, table := T, finishList := F, lanes := Vector.ofFn fun l => s.lanes[l].stop (s.inFlight l),
    loader := d, transfers := ts, messages := n } : State) = X at hstop
  obtain ⟨htable, hfinish, hlanes, hloader, hports, hcq, henable, herror, hpending, hmem, hmem'⟩ := X.stopLeft_keeps
  have hfetch : (∀ x ∈ ts, x.isFetch = false) ↔ ∀ x ∈ s.transfers, x.isFetch = false := by
    have hany := any_of_started (p := Transfer.isFetch) (fun x hx => Transfer.isFetch_lasting.started x hx) hstarted
      fun x hx => (hleft x hx).1
    rw [← not_iff_not]
    simpa using hany
  have hevent : (∃ x ∈ ts, x.isEventWrite = true) ↔ ∃ x ∈ s.transfers, x.isEventWrite = true :=
    any_of_started (fun x hx => Transfer.isEventWrite_lasting.started x hx) hstarted fun x hx => (hleft x hx).1
  have htableNil : T = [] ↔ s.table = [] := by
    rw [← List.map_eq_nil_iff (f := OctEntry.id), ← List.map_eq_nil_iff (f := OctEntry.id) (l := s.table)]
    exact hids ▸ Iff.rfl
  have hempty : T = [] ∧ F = [] ↔ s.table = [] ∧ s.finishList = [] := by
    rw [htableNil, hlist, List.append_eq_nil_iff, List.map_eq_nil_iff]
    refine ⟨fun h => ⟨h.1, h.2.1⟩, fun h => ⟨h.1, h.2, List.eq_nil_iff_forall_not_mem.2 fun e he => ?_⟩⟩
    have := (State.mem_stopEnds.1 he).1
    simp [h.1] at this
  have hidleX : X.device = .stopping ∧ X.table = [] ∧ X.finishList = [] ∧ (∀ x ∈ X.transfers, x.isFetch = false) ↔
      idle := by
    rw [hidle, ← and_assoc (a := s.table = []), ← hempty, ← hfetch, ← hX]
    simp [and_assoc]
  have hmemX {x : Transfer} : x ∈ X.transfers ↔ x ∈ ts := by rw [← hX]
  have hends {e : OctEntry} (he : e ∈ ended) : e ∈ s.stopEnds := hperm.mem_iff.2 he
  refine ⟨X.stopLeft, s.stopEnds, congrArg _ hstop, ?_, hperm, fun k e f he hf => ?_, State.stopEnds_pairwise hn,
    fun e he => ?_, fun e he h => ?_, fun e he h => ?_, ?_, fun hbusy => ?_, fun hfree => ?_, ?_, ?_, fun hread => ?_,
    fun hread => ?_, fun hinv x hx hb => ?_, ?_, ?_, ?_, ?_, ?_, fun x hx hs => ?_, fun x hx => ?_, fun l => ?_⟩
  · rw [hfinish, ← hX]
    exact hlist
  · obtain ⟨hlength, hget⟩ := List.forall₂_iff_get.1 hplaces
    obtain ⟨hk, rfl⟩ := List.getElem?_eq_some_iff.1 he
    obtain ⟨hk', rfl⟩ := List.getElem?_eq_some_iff.1 hf
    exact hget k hk hk'
  · rw [htable, ← hX]
    exact haborted e (hends he)
  · rw [htable, ← hX]
    exact hfinished e he h
  · rw [htable, ← hX]
    exact hmarked e he h
  · rw [htable, ← hX]
    exact hids
  · have hstays : X.stopLeft = X := if_neg fun h => hbusy (hidleX.1 h)
    rw [hstays, ← hX]
    exact ⟨rfl, rfl, rfl, rfl⟩
  · have hhalts : X.stopLeft = X.haltLeft X.errorCode
        { completion := false, event := false, error := false, state := true } := if_pos (hidleX.2 hfree)
    obtain ⟨hdevice, hint, hrings, heq⟩ := X.haltLeft_fields X.errorCode
    rw [hhalts]
    have hfields : X.intState = s.intState ∧ X.rings = s.rings ∧ X.eq = s.eq := by rw [← hX]; exact ⟨rfl, rfl, rfl⟩
    obtain ⟨hi, hr, he⟩ := hfields
    have heventX : (∃ x ∈ X.transfers, x.isEventWrite = true) ↔ ∃ x ∈ s.transfers, x.isEventWrite = true := by
      simpa only [hmemX] using hevent
    simp only [hi, hr, he, heventX] at hint hrings heq
    exact ⟨hdevice, hint, hrings, heq⟩
  · rw [hloader, ← hX]
    exact hqueue
  · rw [hloader, ← hX]
    exact hdis
  · rw [hloader, ← hX]
    exact hreading (State.blockReadInFlight_iff.2 hread)
  · rw [hloader, ← hX]
    refine hending (Bool.eq_false_iff.2 fun h => ?_)
    obtain ⟨x, hx⟩ := State.blockReadInFlight_iff.1 h
    exact hread x hx
  · rcases hmem' x hx with rfl | hx'
    · cases hb
    · exact hblock hinv x (hmemX.1 hx') hb
  · rw [hports, ← hX]
  · rw [hcq, ← hX]
  · rw [henable, ← hX]
  · rw [herror, ← hX]
  · rw [hpending, ← hX]
  · exact hmem x (hmemX.2 (hstarted x hx hs)) (Transfer.ne_message_of_started hs)
  · exact (hmem' x hx).imp_right fun h => hleft x (hmemX.1 h)
  · rw [← Lane.stop_eq, hlanes, ← hX]
    simp

end Sys2Proof.Machine
end
